-- ==== Sys2Proof/Word.lean ====
section
/-! DEFINITION. The words and the small finite types of the block: bytes, 9-bit wire words, levels,
the four owned lines and the two optional rails (spec 00_scope R6, R7; 10_state R32, R33). -/

namespace Sys2Proof

/-- A byte, `bits8` of R7. -/
abbrev Byte := BitVec 8

/-- A wire word, `bits9` of R7 and R70: bit 8 is the flag, bits 7:0 the byte. -/
abbrev Word9 := BitVec 9

/-- An electrical level or the state of a rail: `true` is 1, `false` is 0 (R8). -/
abbrev Level := Bool

/-- The four owned output lines (R6 N_LINES, R32): chip-select, serial clock, serial data, panel reset. -/
inductive Line where
  | cs | scl | sda | rst
deriving DecidableEq, Repr, Inhabited

/-- The two optional supply rails (R6 N_RAILS, R33), each independently present or absent. -/
inductive Rail where
  | vci | vdd3
deriving DecidableEq, Repr, Inhabited

/-- One value for each line. -/
structure Lines (α : Type) where
  cs : α
  scl : α
  sda : α
  rst : α
deriving DecidableEq, Repr, Inhabited

/-- One value for each rail. -/
structure Rails (α : Type) where
  vci : α
  vdd3 : α
deriving DecidableEq, Repr, Inhabited

end Sys2Proof
end

