-- ==== Sys2Proof/Syntax.lean ====
section
/-! DEFINITION. The syntax of the three levels of instruction of the block (spec 30_encoding): the two
wire-word forms, the Command record and its short spelling, and the twelve operations. One constructor
of `Instr` per row of spec/opcode_table.json. -/

namespace Sys2Proof

/-- Which of the two active Command Sequences (R24, R50). -/
inductive SeqId where
  | onSeq | offSeq
deriving DecidableEq, Repr, Inhabited

/-- A Command record as written down, before the check of R75 (R74). -/
structure CommandRec where
  opcode : Byte
  parameterCount : Nat
  parameters : List Byte
  postDelay : Nat
deriving DecidableEq, Repr, Inhabited

/-- The configuration of attach and the environment's answers to it (R31, R165): four opaque line
identifiers, whether each regulator lookup finds its supply, the optional override sequences, and
for each line whether its claim succeeds (`CLAIMABLE` of R6, D30). -/
structure AttachConfig where
  lineId : Lines Nat
  found : Rails Bool
  onOverride : Option (List CommandRec)
  offOverride : Option (List CommandRec)
  claimable : Lines Bool
deriving DecidableEq, Repr, Inhabited

/-- The instructions of the block, in the order of the opcode table. -/
inductive Instr where
  /-- `CWORD b`: the wire word with flag 0 (R71). -/
  | cword (b : Byte)
  /-- `PWORD b`: the wire word with flag 1 (R71). -/
  | pword (b : Byte)
  /-- `CMD`: a Command record (R74). -/
  | cmd (c : CommandRec)
  /-- `SETBRT b`: the one Command the block builds itself (R77). -/
  | setbrt (b : Byte)
  /-- `transmit_word(w)`, selector 0 (R100). -/
  | transmitWord (w : Word9)
  /-- `send(c)`, selector 1 (R110). -/
  | send (c : CommandRec)
  /-- `play(s)`, selector 2 (R120). -/
  | play (s : SeqId)
  /-- `set_power(ON)`, selector 3 (R131). -/
  | setPowerOn
  /-- `set_power(OFF)`, selector 4 (R133). -/
  | setPowerOff
  /-- `update(b, blanked, suspended)`, selector 5 (R151). -/
  | update (b : Byte) (blanked suspended : Bool)
  /-- `update_status(b, blank_state, suspend_state)`, selector 6 (R150). -/
  | updateStatus (b : Byte) (blankState suspendState : Bool)
  /-- `get_current_brightness()`, selector 7 (R153). -/
  | getCurrentBrightness
  /-- `attach(config)`, selector 8 (R165). -/
  | attach (cfg : AttachConfig)
  /-- `detach()`, selector 9 (R170). -/
  | detach
  /-- `suspend()`, selector 10 (R173). -/
  | suspend
  /-- `resume()`, selector 11 (R175). -/
  | resume
deriving DecidableEq, Repr, Inhabited

end Sys2Proof
end

