-- ==== Sys2Proof/WellFormed.lean ====
section
/-! DEFINITION. The well-formedness checks of spec 30_encoding R75: on a Command record, a Command
Sequence, a configuration and an instruction; and the type of checked Commands, the only ones that
exist inside the block (20_memory R52, 60_exceptions R197). -/

namespace Sys2Proof

/-- `wf_command(c)` of R75: the count is at most 15 and at least that many bytes are given. -/
def CommandRec.wf (c : CommandRec) : Bool :=
  decide (c.parameterCount ≤ 15) && decide (c.parameterCount ≤ c.parameters.length)

/-- `wf_sequence(s)` of R75: every entry is well formed. The empty sequence is (D29). -/
def wfSequence (s : List CommandRec) : Bool := s.all CommandRec.wf

/-- An override, when there is one, is a well-formed sequence (R52, R197). -/
def wfOverride (o : Option (List CommandRec)) : Bool :=
  match o with
  | none => true
  | some s => wfSequence s

/-- A configuration is well formed when both its overrides are (R197). -/
def AttachConfig.wf (c : AttachConfig) : Bool :=
  wfOverride c.onOverride && wfOverride c.offOverride

/-- Well-formedness of an instruction: that of the records it carries (R75). Everything else is
well formed by its type. -/
def Instr.wf : Instr → Bool
  | .cword _ => true
  | .pword _ => true
  | .cmd c => c.wf
  | .setbrt _ => true
  | .transmitWord _ => true
  | .send c => c.wf
  | .play _ => true
  | .setPowerOn => true
  | .setPowerOff => true
  | .update _ _ _ => true
  | .updateStatus _ _ _ => true
  | .getCurrentBrightness => true
  | .attach cfg => cfg.wf
  | .detach => true
  | .suspend => true
  | .resume => true

/-- A Command of the block: a record that passed the check of R75, so that no ill-formed one can be
stored or sent (R52, R82). -/
abbrev Command := { c : CommandRec // c.wf = true }

end Sys2Proof
end

