-- ==== Sys2Proof/Machine/Registers.lean ====
section
/-! DEFINITION. The groups of registers of the block (spec 10_state): the working registers of the
serializer and the player, the Panel Handle and the Brightness Device. -/

namespace Sys2Proof.Machine

/-- The Power Sequencer's two states (R26, R130). -/
inductive Power where
  | off | on
deriving DecidableEq, Repr, Inhabited

/-- The lifecycle states (R27, R177). -/
inductive Life where
  | detached | attached
deriving DecidableEq, Repr, Inhabited

/-- The command buffer `CB` (R20). -/
structure CmdBuf where
  opcode : Byte
  count : BitVec 4
  param : Vector Byte 15
  postDelay : Nat
deriving DecidableEq, Repr, Inhabited

/-- The sequence position `SP`, the program counter of the block (R24). -/
structure SeqPos where
  seq : SeqId
  idx : Nat
deriving DecidableEq, Repr, Inhabited

/-- The registers that hold the position inside a sequence, a Command and a word (R20, R22, R24). -/
structure WorkRegs where
  cb : CmdBuf
  shr : Word9
  bitIdx : BitVec 4
  wIdx : BitVec 5
  sp : SeqPos
deriving DecidableEq, Repr, Inhabited

/-- The Panel Handle (R28): line identifiers, presence of the rails, `POWER`, `BRT`, and the two
active sequences, which are the sequence store of R50. -/
structure PanelHandle where
  lineId : Lines Nat
  present : Rails Bool
  power : Power
  brt : Byte
  onSeq : List Command
  offSeq : List Command
deriving DecidableEq, Repr, Inhabited

/-- The Brightness Device (R30): the last known brightness, blank and suspend inputs. -/
structure BrightnessDevice where
  reqBrt : Byte
  reqBlank : Bool
  reqSusp : Bool
deriving DecidableEq, Repr, Inhabited

end Sys2Proof.Machine
end

