-- ==== Sys2Proof/Config.lean ====
section
/-! DEFINITION. What is fixed for a machine (spec 00_scope R6) and the free values: the numbers the
source gives, the parameters with their defaults, and opaque constants for what is left open. -/

namespace Sys2Proof

/-- When attach makes the claimed lines outputs (R6 DIR_OUT_POLICY, D16). -/
inductive DirOutPolicy where
  | afterAllClaims | afterEachClaim
deriving DecidableEq, Repr, Inhabited

/-- What suspend does when `POWER` is OFF (R6 SUSPEND_WHEN_OFF, D6). -/
inductive SuspendWhenOff where
  | skip | replay
deriving DecidableEq, Repr, Inhabited

/-- The parameters of the block (R6). They stand in `State` so that a statement about every state
holds for every value of them; no step changes them. -/
structure Params where
  /-- Electrical level of an asserted chip-select (D1). -/
  csAssertLevel : Level
  /-- Whether a hold follows the chip-select assertion (D2). -/
  holdAfterCsAssert : Bool
  /-- The opcode of the "set brightness" Command (D11, OPEN). -/
  brightnessOpcode : Byte
  /-- The built-in default sequences (D12, OPEN). -/
  defaultOnSeq : List Command
  defaultOffSeq : List Command
  dirOutPolicy : DirOutPolicy
  suspendWhenOff : SuspendWhenOff
deriving DecidableEq, Repr, Inhabited

/-- T_SETTLE_MS of R6. -/
def Config.settleMs : Nat := 10

/-- T_HOLD_US of R6: the minimum of one hold, in microseconds. -/
def Config.holdUs : Nat := 10

/-- DEFAULT_BRIGHTNESS of R6. -/
def Config.defaultBrightness : Byte := 255#8

/-- BRIGHTNESS_OPCODE: no source gives it (R77, N1, D11). A free value: nothing constrains it. -/
opaque Config.brightnessOpcode : Byte

/-- DEFAULT_ON_SEQ: no source gives its contents (N2, D12). A free value. -/
opaque Config.defaultOnSeq : List Command

/-- DEFAULT_OFF_SEQ: no source gives its contents (N2, D12). A free value. -/
opaque Config.defaultOffSeq : List Command

/-- FREE VALUE: the level of a line after the block stops driving it (R32, D22, U6). -/
opaque Config.freeLevel : Nat → Level

/-- FREE VALUE: what the registers of the Panel Handle hold once it is destroyed (R39, R170). -/
opaque Config.freeHandle : Nat → Machine.PanelHandle

/-- FREE VALUE: what the registers of the Brightness Device hold once it is destroyed (R39, R170). -/
opaque Config.freeDevice : Nat → Machine.BrightnessDevice

/-- FREE VALUE: what the working registers hold after detach (R39). -/
opaque Config.freeWork : Nat → Machine.WorkRegs

/-- The parameters of the machine that `State.reset` is: the defaults of R6 where it gives one, the
opaque constants where it leaves the value open. -/
def Config.params : Params where
  csAssertLevel := false
  holdAfterCsAssert := true
  brightnessOpcode := Config.brightnessOpcode
  defaultOnSeq := Config.defaultOnSeq
  defaultOffSeq := Config.defaultOffSeq
  dirOutPolicy := .afterAllClaims
  suspendWhenOff := .skip

end Sys2Proof
end

