-- ==== Sys2Proof/Decode.lean ====
section
/-! DEFINITION. Decoding and encoding (spec 30_encoding). The spec fixes the 9-bit word (R70, R71), the
fields of a Command record (R74) and the selectors of the operations (R84, R88); it fixes no storage
layout (R55, D33). A request is therefore a format and a list of fields, each a natural number: "the
store is addressed by entry and field, never by byte" (R55). The order of the fields is the model's own
(notes/assumptions/12.md). -/

namespace Sys2Proof

/-- What a list of fields is read as: the level of instruction (30_encoding, opening). -/
inductive Format where
  /-- Format W9: one field, the 9-bit word (R70). -/
  | w9
  /-- Format CMD: the fields of a Command record (R74). -/
  | cmd
  /-- The pseudo-instruction SETBRT: one field, the brightness (R77, R87). -/
  | setbrt
  /-- Format OP: the selector, then the operands (R84). -/
  | op
deriving DecidableEq, Repr, Inhabited

/-- Why a list of fields is no instruction. -/
inductive Reject where
  /-- An operation selector of 12 or more (R83, R84). -/
  | unassignedSelector (n : Nat)
  /-- A field that does not fit the width the spec gives it. -/
  | fieldTooWide (n : Nat)
  /-- A flag field that is neither 0 nor 1. -/
  | badFlag (n : Nat)
  /-- The list ends before the last field. -/
  | missingField
  /-- Fields stand after the last one. -/
  | trailingFields
  /-- A Command that R75 does not allow: refused when it is constructed (R82, R197). -/
  | illFormedCommand
deriving DecidableEq, Repr, Inhabited

/-! ### Word forms -/

/-- `cword(b) = 0b0 ++ b` (R73). -/
def cwordBits (b : Byte) : Word9 := 0#1 ++ b

/-- `pword(b) = 0b1 ++ b` (R73). -/
def pwordBits (b : Byte) : Word9 := 1#1 ++ b

/-- The flag `F` of a word (R70). -/
def wordFlag (w : Word9) : Bool := w.getLsbD 8

/-- The byte `B` of a word (R70). -/
def wordByte (w : Word9) : Byte := w.extractLsb' 0 8

/-- The two word forms, selected by the flag alone (R71, R88). -/
def decodeWord (w : Word9) : Instr :=
  if wordFlag w then .pword (wordByte w) else .cword (wordByte w)

/-- The receiver's grouping of a stream of words into Commands (R79): a word with flag 0 starts a
Command, the following words with flag 1 are its parameters. Parameter words before any command word
belong to none and are dropped; the block never produces one (R82). -/
def groupWords : List Word9 → List (Byte × List Byte)
  | [] => []
  | w :: ws =>
    if wordFlag w then groupWords ws
    else (wordByte w, (ws.takeWhile wordFlag).map wordByte) :: groupWords ws

/-- Visibility of R84: the six external operations are the host's; the others, and the words and
Commands they are made of, are invoked by the block alone. -/
def Instr.external : Instr → Bool
  | .cword _ => false
  | .pword _ => false
  | .cmd _ => false
  | .setbrt _ => false
  | .transmitWord _ => false
  | .send _ => false
  | .play _ => false
  | .setPowerOn => false
  | .setPowerOff => false
  | .update _ _ _ => false
  | .updateStatus _ _ _ => true
  | .getCurrentBrightness => true
  | .attach _ => true
  | .detach => true
  | .suspend => true
  | .resume => true

/-! ### Reading fields -/

/-- A reader takes fields from the front of the list and leaves the rest. -/
abbrev Reader (α : Type) := List Nat → Except Reject (α × List Nat)

/-- Read nothing. -/
def readDone {α : Type} (a : α) : Reader α := fun xs => .ok (a, xs)

/-- Read with `p`, then with what its value says. -/
def readThen {α β : Type} (p : Reader α) (f : α → Reader β) : Reader β := fun xs =>
  match p xs with
  | .error e => .error e
  | .ok (a, rest) => f a rest

/-- One field, any natural number. -/
def readNat : Reader Nat
  | [] => .error .missingField
  | x :: xs => .ok (x, xs)

/-- One field of `n` bits. -/
def readBits (n : Nat) : Reader (BitVec n) :=
  readThen readNat fun x xs =>
    if x < 2 ^ n then .ok (BitVec.ofNat n x, xs) else .error (.fieldTooWide x)

/-- One flag: 0 is false, 1 is true. -/
def readFlag : Reader Bool :=
  readThen readNat fun x xs =>
    match x with
    | 0 => .ok (false, xs)
    | 1 => .ok (true, xs)
    | _ => .error (.badFlag x)

/-- `n` things, one after another. -/
def readMany {α : Type} (p : Reader α) : Nat → Reader (List α)
  | 0 => readDone []
  | n + 1 => readThen p fun a => readThen (readMany p n) fun as => readDone (a :: as)

/-- A Command record: opcode, parameter_count, the number of parameter bytes, the bytes, post_delay
(R74). An ill-formed record is refused (R75, R82). -/
def readRecord : Reader CommandRec :=
  readThen (readBits 8) fun opcode =>
  readThen readNat fun count =>
  readThen readNat fun len =>
  readThen (readMany (readBits 8) len) fun ps =>
  readThen readNat fun delay => fun xs =>
    let c : CommandRec :=
      { opcode := opcode, parameterCount := count, parameters := ps, postDelay := delay }
    if c.wf then .ok (c, xs) else .error .illFormedCommand

/-- A sequence: its length, then its Commands (R76). -/
def readSequence : Reader (List CommandRec) :=
  readThen readNat fun n => readMany readRecord n

/-- An optional override: a flag, then the sequence if the flag is 1 (R31). -/
def readOverride : Reader (Option (List CommandRec)) :=
  readThen readFlag fun given =>
    if given then readThen readSequence fun s => readDone (some s) else readDone none

/-- Which sequence: 0 for ON_SEQ, 1 for OFF_SEQ. -/
def readSeqId : Reader SeqId :=
  readThen readFlag fun off => readDone (if off then .offSeq else .onSeq)

/-- The operands of attach (R31): four line identifiers, two lookup results, two overrides, and four
flags that say which claims FAIL. -/
def readAttach : Reader AttachConfig :=
  readThen readNat fun idCs => readThen readNat fun idScl =>
  readThen readNat fun idSda => readThen readNat fun idRst =>
  readThen readFlag fun vci => readThen readFlag fun vdd3 =>
  readThen readOverride fun on => readThen readOverride fun off =>
  readThen readFlag fun failCs => readThen readFlag fun failScl =>
  readThen readFlag fun failSda => readThen readFlag fun failRst =>
  readDone
    { lineId := ⟨idCs, idScl, idSda, idRst⟩
      found := ⟨vci, vdd3⟩
      onOverride := on
      offOverride := off
      claimable := ⟨!failCs, !failScl, !failSda, !failRst⟩ }

/-- Brightness and the two flags of `update` and `update_status` (R150, R151). -/
def readUpdate (f : Byte → Bool → Bool → Instr) : Reader Instr :=
  readThen (readBits 8) fun b => readThen readFlag fun bl => readThen readFlag fun su =>
  readDone (f b bl su)

/-- The operands of the operation with this selector (R84). Selectors 12 and above are refused (R83). -/
def readOperation : Nat → Reader Instr
  | 0 => readThen (readBits 9) fun w => readDone (.transmitWord w)
  | 1 => readThen readRecord fun c => readDone (.send c)
  | 2 => readThen readSeqId fun s => readDone (.play s)
  | 3 => readDone .setPowerOn
  | 4 => readDone .setPowerOff
  | 5 => readUpdate .update
  | 6 => readUpdate .updateStatus
  | 7 => readDone .getCurrentBrightness
  | 8 => readThen readAttach fun cfg => readDone (.attach cfg)
  | 9 => readDone .detach
  | 10 => readDone .suspend
  | 11 => readDone .resume
  | n => fun _ => .error (.unassignedSelector n)

/-- Read one instruction of a format from the front of the list (R88). -/
def readInstr : Format → Reader Instr
  | .w9 => readThen (readBits 9) fun w => readDone (decodeWord w)
  | .cmd => readThen readRecord fun c => readDone (.cmd c)
  | .setbrt => readThen (readBits 8) fun b => readDone (.setbrt b)
  | .op => readThen readNat readOperation

/-- The decoder: the fields are exactly one instruction, or they are refused by name. -/
def decode (fmt : Format) (fields : List Nat) : Except Reject Instr :=
  match readInstr fmt fields with
  | .error e => .error e
  | .ok (i, []) => .ok i
  | .ok (_, _ :: _) => .error .trailingFields

/-! ### Writing fields -/

def flagField (b : Bool) : Nat := if b then 1 else 0

def recordFields (c : CommandRec) : List Nat :=
  [c.opcode.toNat, c.parameterCount, c.parameters.length] ++ c.parameters.map BitVec.toNat ++
    [c.postDelay]

def sequenceFields (s : List CommandRec) : List Nat := s.length :: s.flatMap recordFields

def overrideFields : Option (List CommandRec) → List Nat
  | none => [0]
  | some s => 1 :: sequenceFields s

def attachFields (c : AttachConfig) : List Nat :=
  [c.lineId.cs, c.lineId.scl, c.lineId.sda, c.lineId.rst, flagField c.found.vci,
    flagField c.found.vdd3] ++ overrideFields c.onOverride ++ overrideFields c.offOverride ++
    [flagField !c.claimable.cs, flagField !c.claimable.scl, flagField !c.claimable.sda,
      flagField !c.claimable.rst]

def seqField (s : SeqId) : Nat :=
  match s with
  | .onSeq => 0
  | .offSeq => 1

/-- The format and fields of an instruction (R70, R74, R77, R84). -/
def encode : Instr → Format × List Nat
  | .cword b => (.w9, [(cwordBits b).toNat])
  | .pword b => (.w9, [(pwordBits b).toNat])
  | .cmd c => (.cmd, recordFields c)
  | .setbrt b => (.setbrt, [b.toNat])
  | .transmitWord w => (.op, [0, w.toNat])
  | .send c => (.op, 1 :: recordFields c)
  | .play s => (.op, [2, seqField s])
  | .setPowerOn => (.op, [3])
  | .setPowerOff => (.op, [4])
  | .update b bl su => (.op, [5, b.toNat, flagField bl, flagField su])
  | .updateStatus b bl su => (.op, [6, b.toNat, flagField bl, flagField su])
  | .getCurrentBrightness => (.op, [7])
  | .attach cfg => (.op, 8 :: attachFields cfg)
  | .detach => (.op, [9])
  | .suspend => (.op, [10])
  | .resume => (.op, [11])

/-! ### The opcode table's numbering -/

/-- The level a row of the opcode table is at, by the bits the table gives it in whole bytes: a
selector is 4 bits, a word 9, and the wire image of SETBRT, the only one whose length is fixed, 18. The
wire image of CMD has no fixed length, and its first word alone is a CWORD (R71, R78). -/
def tableFormat (nbits : Nat) : Format :=
  if nbits ≤ 8 then .op else if nbits ≤ 16 then .w9 else .setbrt

/-- The brightness in the wire image of SETBRT, the first word in the low 9 bits (R77, R78): a command
word, whose byte is BRIGHTNESS_OPCODE and no operand, then a parameter word; no field for another image. -/
def imageFields (w : Nat) : List Nat :=
  if w % 512 < 256 ∧ w / 512 / 256 = 1 then [w / 512 % 256] else []

/-- The fields of the instruction whose table bits are `w`, every operand field the table has no bits
for 0: the word or the selector, then as many zeros as the instruction reads. -/
def tableFields (nbits w : Nat) : List Nat :=
  match tableFormat nbits with
  | .setbrt => imageFields w
  | fmt =>
    let all := w :: List.replicate 16 0
    match readInstr fmt all with
    | .error _ => [w]
    | .ok (_, rest) => all.take (all.length - rest.length)

/-- The instruction the decoder reads from an instruction whose table bits are `w`, none where it
refuses. -/
def decodeTableWord (nbits w : Nat) : Option Instr :=
  match decode (tableFormat nbits) (tableFields nbits w) with
  | .error _ => none
  | .ok i => some i

end Sys2Proof
end

