-- ==== Sys2Proof/Machine/State.lean ====
section
/-! DEFINITION. The state of the block (spec 10_state) as plain data, the events of its trace
(00_scope R8), the steps its control state is made of (R36), its refusals, and its reset. -/

namespace Sys2Proof.Machine

/-- The event alphabet of R8: everything the block does to the outside. -/
inductive Event where
  /-- `W(l, v)`: write level v to line l. -/
  | w (l : Line) (v : Level)
  /-- `H`: a hold of at least 10 microseconds. -/
  | h
  /-- `S(n)`: a sleep of at least n milliseconds. -/
  | s (n : Nat)
  /-- `RAIL(r, e)`: enable (true) or disable rail r. -/
  | rail (r : Rail) (e : Level)
  /-- `CLAIM(l, ok)`. -/
  | claim (l : Line) (ok : Bool)
  /-- `DIR(l, v)`: make line l an output with initial level v. -/
  | dir (l : Line) (v : Level)
  /-- `REL(l)`: release line l. -/
  | rel (l : Line)
  /-- `LOOKUP(r, found)`. -/
  | lookup (r : Rail) (found : Bool)
  /-- `REGREL(r)`: release the regulator handle of rail r. -/
  | regRel (r : Rail)
  /-- `BDNEW`: the Brightness Device is created. -/
  | bdNew
  /-- `BDDEL`: the Brightness Device is destroyed. -/
  | bdDel
deriving DecidableEq, Repr, Inhabited

/-- What an external operation returns to the host (R84 column "result", R190; symbolic, D26). -/
inductive Result where
  /-- no value: detach, suspend, resume; also before the first operation -/
  | nothing
  /-- `success` of attach and update_status -/
  | success
  /-- the error of attach, with the line that could not be claimed (R191) -/
  | resourceUnavailable (l : Line)
  /-- the byte of get_current_brightness (R153) -/
  | brightness (b : Byte)
deriving DecidableEq, Repr, Inhabited

/-- One step of an operation in flight: an event, or the write of a register (R36, D23). What each
does is `Micro.perform` in Ops.lean. -/
inductive Micro where
  | emit (e : Event)
  | setShr (w : Word9)
  | setBitIdx (i : BitVec 4)
  | loadCb (c : Command)
  | setWIdx (i : BitVec 5)
  | setSp (p : SeqPos)
  | setPower (p : Power)
  | setBrt (b : Byte)
  | setReq (d : BrightnessDevice)
  | createHandle (h : PanelHandle)
  | destroy
  | setLife (l : Life)
  | ret (r : Result)
deriving DecidableEq, Repr, Inhabited

/-- Who makes a request: the host, or the block itself invoking an internal operation (R84, R85). -/
inductive Caller where
  | host | block
deriving DecidableEq, Repr, Inhabited

/-- A request not yet taken: the caller, the format and the fields. -/
structure Request where
  caller : Caller
  format : Format
  fields : List Nat
deriving DecidableEq, Repr, Inhabited

/-- The state of the block (10_state), its ghost trace (R38), its control state (R36), its parameters
(R6), and four fields that are the model's own: `requests`, `result`, `stepwise`, `draws`. -/
structure State where
  /-- parameters, R6; no step changes them -/
  params : Params
  /-- `LIFE`, R27 -/
  life : Life
  /-- `BUSY`, R27 and R36 -/
  busy : Bool
  /-- `OWNED[l]`, R27 -/
  owned : Lines Bool
  /-- whether line l has been made an output (`DIR` of R8) and not released since -/
  dirOut : Lines Bool
  /-- `LINE[l]`, R32 -/
  line : Lines Level
  /-- `RAILEN[r]`, R33 -/
  railEn : Rails Level
  /-- the Panel Handle, R28: LINE_ID, VCI_PRESENT, VDD3_PRESENT, POWER, BRT, ON_SEQ, OFF_SEQ -/
  handle : PanelHandle
  /-- the Brightness Device, R30: REQ_BRT, REQ_BLANK, REQ_SUSP -/
  device : BrightnessDevice
  /-- CB, SHR, BITIDX, WIDX, SP: R20, R22, R24 -/
  work : WorkRegs
  /-- the trace so far, oldest event first: R8, R38 -/
  trace : List Event
  /-- the control state: the steps of the operation in flight still to come, R36 -/
  pending : List Micro
  /-- MODEL'S OWN: whether an operation runs one event a step or whole in one step (D23) -/
  stepwise : Bool
  /-- MODEL'S OWN: the requests still to be made, the host script of R87 and R211 -/
  requests : List Request
  /-- MODEL'S OWN: what the last external operation returned -/
  result : Result
  /-- MODEL'S OWN: how many free values have been drawn -/
  draws : Nat
deriving DecidableEq, Repr

/-- The block raises no fault: "An error is a result returned by an operation to its caller; nothing
is vectored anywhere" (R190). The type is empty. -/
inductive Fault
deriving DecidableEq, Repr

/-- Why the block gives a request no meaning (R199). Every one errs toward the unprovable: safe. -/
inductive Refusal where
  /-- Raised by an arm of exec for an instruction that has no meaning yet. Safe. -/
  | notModelled (mnemonic : String)
  /-- Raised by the external operations while `BUSY` (R63, R199 (1), D19). Safe. -/
  | busy
  /-- Raised by every external operation but attach while `LIFE` is DETACHED (R199 (2), R205, D18). Safe. -/
  | notAttached
  /-- Raised by attach while `LIFE` is ATTACHED (R199 (2), R205, D18). Safe. -/
  | alreadyAttached
  /-- Raised by SET_POWER_ON and SET_POWER_OFF when the target is the current state (R135, R199 (3), D7). Safe. -/
  | powerAlreadyThere (p : Power)
  /-- Raised by the step for a host request of an instruction that is not external (R199 (4), R206). Safe. -/
  | internalOperation
  /-- Raised by CMD, SEND and ATTACH for a Command that is not well formed (R75, R82, R197, R199 (6), D13). Safe. -/
  | illFormedCommand
  /-- Raised by the step for fields that are no instruction, unassigned selectors among them (R83, R199 (5)). Safe. -/
  | undecodable (r : Reject)
deriving DecidableEq, Repr

/-- The block before the first attach (R39, column "before attach"). The spec gives `LIFE`, `BUSY`,
`OWNED` and the trace; every other register value here is the model's (assumptions 7 to 10). -/
def State.reset : State where
  params := Config.params
  life := .detached
  busy := false
  owned := ⟨false, false, false, false⟩
  dirOut := ⟨false, false, false, false⟩
  line := ⟨false, false, false, false⟩
  railEn := ⟨false, false⟩
  handle :=
    { lineId := ⟨0, 0, 0, 0⟩
      present := ⟨false, false⟩
      power := .off
      brt := 255#8
      onSeq := []
      offSeq := [] }
  device := { reqBrt := 255#8, reqBlank := false, reqSusp := false }
  work :=
    { cb := { opcode := 0#8, count := 0#4, param := Vector.replicate 15 0#8, postDelay := 0 }
      shr := 0#9
      bitIdx := 0#4
      wIdx := 0#5
      sp := { seq := .onSeq, idx := 0 } }
  trace := []
  pending := []
  stepwise := false
  requests := []
  result := .nothing
  draws := 0

end Sys2Proof.Machine
end

