-- ==== Sys2Proof/Machine/Flags.lean ====
section
/-! DEFINITION. The flags an operation computes or tests (spec 10_state R26, R27; 44 R151, R153). The
block has no arithmetic condition codes (R27). -/

namespace Sys2Proof.Machine

/-- A Boolean as a `POWER` value: true is ON (R151). -/
def powerOf (on : Bool) : Power := if on then .on else .off

/-- `should_be_on = !blanked && !suspended`, as a `POWER` value (R151). -/
def shouldBeOn (blanked suspended : Bool) : Power := powerOf (!blanked && !suspended)

/-- What get_current_brightness returns: `BRT` while ON, 0 while OFF (R153). -/
def effectiveBrightness (h : PanelHandle) : Byte :=
  match h.power with
  | .on => h.brt
  | .off => 0#8

/-- Whether the "set brightness" Command of this brightness is sent by an update that ends with this
power state: only while ON (R34 (2), R154). -/
def sendsBrightness (after : Power) : Bool :=
  match after with
  | .on => true
  | .off => false

end Sys2Proof.Machine
end

