-- ==== Sys2Proof/Machine/Operands.lean ====
section
/-! DEFINITION. Operand forms (spec 30_encoding): access to one line or rail of four or two, word
assembly, the wire image of a Command, checked Commands and sequences, the "set brightness" Command,
and the load of the command buffer. -/

namespace Sys2Proof.Machine

/-! ### One of four lines, one of two rails -/

def getLine {α : Type} (x : Lines α) : Line → α
  | .cs => x.cs
  | .scl => x.scl
  | .sda => x.sda
  | .rst => x.rst

def setLine {α : Type} (x : Lines α) (l : Line) (v : α) : Lines α :=
  match l with
  | .cs => { x with cs := v }
  | .scl => { x with scl := v }
  | .sda => { x with sda := v }
  | .rst => { x with rst := v }

def getRail {α : Type} (x : Rails α) : Rail → α
  | .vci => x.vci
  | .vdd3 => x.vdd3

def setRail {α : Type} (x : Rails α) (r : Rail) (v : α) : Rails α :=
  match r with
  | .vci => { x with vci := v }
  | .vdd3 => { x with vdd3 := v }

/-! ### Levels named by the spec -/

/-- CS_ON of R9: the level of an asserted chip-select. -/
def csOn (p : Params) : Level := p.csAssertLevel

/-- CS_OFF of R9: the other level. -/
def csOff (p : Params) : Level := !p.csAssertLevel

/-- RST_ON of R9: reset asserted is low (R6, R132). -/
def rstOn : Level := false

/-- RST_OFF of R9: reset released is high. -/
def rstOff : Level := true

/-- INIT of R165: the initial level of each line when it is made an output (D16). -/
def initLevel (p : Params) : Line → Level
  | .cs => csOff p
  | .scl => true
  | .sda => false
  | .rst => rstOn

/-! ### Commands and their wire image -/

/-- The parameter bytes that are sent: those below `parameter_count` (R74, R110). -/
def sentParams (c : Command) : List Byte := c.1.parameters.take c.1.parameterCount

/-- `words(c)` of R78: the opcode word, then one parameter word for each byte sent. -/
def wordsOf (c : Command) : List Word9 := cwordBits c.1.opcode :: (sentParams c).map pwordBits

/-- `SETBRT(b)` of R77: opcode BRIGHTNESS_OPCODE, one parameter b, no delay. -/
def setbrtCommand (p : Params) (b : Byte) : Command :=
  ⟨{ opcode := p.brightnessOpcode, parameterCount := 1, parameters := [b], postDelay := 0 }, rfl⟩

/-- A record that passes the check of R75 becomes a Command; another is refused at construction. -/
def checkCommand (c : CommandRec) : Option Command :=
  if h : c.wf = true then some ⟨c, h⟩ else none

/-- A sequence of well-formed records (R75, R76). -/
def checkSequence : List CommandRec → Option (List Command)
  | [] => some []
  | c :: cs =>
    match checkCommand c, checkSequence cs with
    | some c', some cs' => some (c' :: cs')
    | _, _ => none

/-- Which sequence attach makes active: the override if one is given, else the built-in default (R50,
R51, R165); none when the override is not well formed (R52). -/
def chooseSequence (override : Option (List CommandRec)) (dflt : List Command) :
    Option (List Command) :=
  match override with
  | none => some dflt
  | some s => checkSequence s

/-- The active sequence a `SeqId` names (R24, R28). -/
def activeSeq (h : PanelHandle) : SeqId → List Command
  | .onSeq => h.onSeq
  | .offSeq => h.offSeq

/-- `MemRead((seq, k), 1)` of R65: entry k of a sequence of the store; none outside it. -/
def memRead (h : PanelHandle) (p : SeqPos) : Option Command := (activeSeq h p.seq)[p.idx]?

/-! ### The command buffer -/

/-- The 15 slots after the bytes `ps` are copied in: the slots beyond them keep what they held, and
bytes beyond the fifteenth have no slot (R20, R74). -/
def loadSlots (ps : List Byte) (old : Vector Byte 15) : Vector Byte 15 :=
  ⟨((ps ++ old.toList.drop ps.length).take 15).toArray, by simp; omega⟩

/-- `CB <- c` (R21, R110). -/
def loadBuffer (cb : CmdBuf) (c : Command) : CmdBuf where
  opcode := c.1.opcode
  count := BitVec.ofNat 4 c.1.parameterCount
  param := loadSlots c.1.parameters cb.param
  postDelay := c.1.postDelay

end Sys2Proof.Machine
end

