-- ==== Sys2Proof/Machine/Ops.lean ====
section
/-! DEFINITION. The shared operations of the block: the primitives of spec 00_scope R9 and R8, what each
step of the control state does (10_state R36), running an operation whole or leaving it in flight
(92 D23), the admission of external operations (60_exceptions R205, R63), and the one error with its
rollback (R192). -/

namespace Sys2Proof.Machine

/-! ### Primitives (R9) and the collaborators' events (R8), as steps -/

def drive (l : Line) (v : Level) : Micro := .emit (.w l v)
def hold : Micro := .emit .h
def sleepMs (n : Nat) : Micro := .emit (.s n)
def rail (r : Rail) (e : Level) : Micro := .emit (.rail r e)
def claim (l : Line) (ok : Bool) : Micro := .emit (.claim l ok)
def dirOutput (l : Line) (v : Level) : Micro := .emit (.dir l v)
def release (l : Line) : Micro := .emit (.rel l)
def lookup (r : Rail) (found : Bool) : Micro := .emit (.lookup r found)
def releaseReg (r : Rail) : Micro := .emit (.regRel r)
def newDevice : Micro := .emit .bdNew
def deleteDevice : Micro := .emit .bdDel

/-! ### What one event does to the registers -/

/-- A line that was an output is no longer driven: its level is a free value (R32, D22). -/
def floatLine (s : State) (l : Line) : State :=
  { s with
    line := setLine s.line l (Config.freeLevel s.draws)
    dirOut := setLine s.dirOut l false
    draws := s.draws + 1 }

/-- The registers an event writes: the latch of a line (R9, R32) or a rail (R9, R33), ownership and
direction (R165, R170), presence (R193). A hold, a sleep and the events of the regulator handle and
the Brightness Device write none. -/
def eventEffect (e : Event) (s : State) : State :=
  match e with
  | .w l v => { s with line := setLine s.line l v }
  | .h => s
  | .s _ => s
  | .rail r v => { s with railEn := setRail s.railEn r v }
  | .claim l ok => if ok then { s with owned := setLine s.owned l true } else s
  | .dir l v => { s with line := setLine s.line l v, dirOut := setLine s.dirOut l true }
  | .rel l =>
    let s' := { s with owned := setLine s.owned l false }
    if getLine s.dirOut l then floatLine s' l else s'
  | .lookup r found =>
    { s with handle := { s.handle with present := setRail s.handle.present r found } }
  | .regRel _ => s
  | .bdNew => s
  | .bdDel => s

/-- An event happens: its registers are written and it is appended to the trace (R8, R38). -/
def emitEvent (e : Event) (s : State) : State :=
  let s' := eventEffect e s
  { s' with trace := s'.trace ++ [e] }

/-- The Panel Handle and the Brightness Device are destroyed, and with them the block's working
position: their registers have no meaning afterwards, so each is a free value (R39, R170). -/
def destroyRegisters (s : State) : State :=
  { s with
    handle := Config.freeHandle s.draws
    device := Config.freeDevice s.draws
    work := Config.freeWork s.draws
    draws := s.draws + 1 }

/-- One step of the control state (R36). -/
def Micro.perform (m : Micro) (s : State) : State :=
  match m with
  | .emit e => emitEvent e s
  | .setShr w => { s with work := { s.work with shr := w } }
  | .setBitIdx i => { s with work := { s.work with bitIdx := i } }
  | .loadCb c => { s with work := { s.work with cb := loadBuffer s.work.cb c } }
  | .setWIdx i => { s with work := { s.work with wIdx := i } }
  | .setSp p => { s with work := { s.work with sp := p } }
  | .setPower p => { s with handle := { s.handle with power := p } }
  | .setBrt b => { s with handle := { s.handle with brt := b } }
  | .setReq d => { s with device := d }
  | .createHandle h => { s with handle := h }
  | .destroy => destroyRegisters s
  | .setLife l => { s with life := l }
  | .ret r => { s with busy := false, result := r }

/-! ### Running an operation -/

/-- Perform steps in order, to the last (R58: an operation runs to completion). -/
def runMicros : List Micro → State → State
  | [], s => s
  | m :: ms, s => runMicros ms (m.perform s)

/-- An operation whose steps are `ms` starts: it runs whole, or, one event a step, it becomes the
front of the control state (R36, D23). -/
def State.start (s : State) (ms : List Micro) : State :=
  if s.stepwise then { s with pending := ms ++ s.pending } else runMicros ms s

/-- The state once everything in flight has run to completion (R58, R242). -/
def State.finish (s : State) : State := runMicros s.pending { s with pending := [] }

/-- An internal operation: invoked by the block inside an external one, so it has no admission test
and returns nothing to the host (R84, R206). -/
def runInternal (s : State) (ms : List Micro) : Host.Outcome State Fault Refusal :=
  .next (s.start ms)

/-- An external operation is accepted: `BUSY` is set, the steps run, the last one returns the result
and clears it (R36, R63). -/
def accept (s : State) (ms : List Micro) (r : Result) : Host.Outcome State Fault Refusal :=
  .next ({ s with busy := true }.start (ms ++ [Micro.ret r]))

/-- Admission of every external operation but attach: legal while attached and not busy (R205). -/
def acceptAttached (s : State) (ms : List Micro) (r : Result) : Host.Outcome State Fault Refusal :=
  if s.busy then .refused .busy
  else
    match s.life with
    | .attached => accept s ms r
    | .detached => .refused .notAttached

/-! ### The error of the block -/

/-- `raise ResourceUnavailable(l)`: every line claimed in this attach is released, most recent first,
and the error is returned (R190, R191, R192). `claimed` is most recent first. There is no handler and
no return from one (R203). -/
def raiseResourceUnavailable (claimed : List Line) (l : Line) : List Micro :=
  claimed.map release ++ [Micro.ret (.resourceUnavailable l)]

end Sys2Proof.Machine
end

