-- ==== Sys2Proof/Machine/Wire.lean ====
section
/-! DEFINITION. The Signal Driver (spec 40_signal_driver): TRANSMIT_WORD, and the two word forms CWORD
and PWORD (30_encoding R71, R73), each of which is a word transmitted. -/

namespace Sys2Proof.Machine

/-- One bit: clock low, data, clock high, each held (R100). -/
def bitSteps (w : Word9) (i : Nat) : List Micro :=
  [.setBitIdx (BitVec.ofNat 4 i), drive .scl false, hold, drive .sda (w.getLsbD i), hold,
    drive .scl true, hold]

/-- The hold after the chip-select assertion (R100, R101, D2). -/
def csHold (p : Params) : List Micro := if p.holdAfterCsAssert then [hold] else []

/-- The steps of `transmit_word(w)` (R100). -/
def wordSteps (p : Params) (w : Word9) : List Micro :=
  [.setShr w, drive .cs (csOff p), hold, drive .scl true, hold, drive .cs (csOn p)] ++ csHold p ++
    [8, 7, 6, 5, 4, 3, 2, 1, 0].flatMap (bitSteps w) ++ [drive .cs (csOff p), hold]

/-- TRANSMIT_WORD (R100). -/
def execTransmitWord (w : Word9) (s : State) : Host.Outcome State Fault Refusal :=
  runInternal s (wordSteps s.params w)

/-- CWORD b: the word 0b0 ++ b (R71, R73), transmitted (R100). -/
def execCword (b : Byte) (s : State) : Host.Outcome State Fault Refusal :=
  runInternal s (wordSteps s.params (cwordBits b))

/-- PWORD b: the word 0b1 ++ b (R71, R73), transmitted (R100). -/
def execPword (b : Byte) (s : State) : Host.Outcome State Fault Refusal :=
  runInternal s (wordSteps s.params (pwordBits b))

end Sys2Proof.Machine
end

