-- ==== Sys2Proof/Machine/Transmit.lean ====
section
/-! DEFINITION. The Command Transmitter (spec 41_command_transmitter): SEND, and the Command forms CMD
(30_encoding R74) and SETBRT (R77, 44 R152), each of which is a Command sent. -/

namespace Sys2Proof.Machine

/-- The parameter words from word index k on (R110). -/
def paramSteps (p : Params) : Nat → List Byte → List Micro
  | _, [] => []
  | k, b :: bs => .setWIdx (BitVec.ofNat 5 k) :: wordSteps p (pwordBits b) ++ paramSteps p (k + 1) bs

/-- The settle delay after a Command: nothing at all when it is 0 (R110, R113). -/
def delaySteps (n : Nat) : List Micro := if n = 0 then [] else [sleepMs n]

/-- The steps of `send(c)` (R110). -/
def sendSteps (p : Params) (c : Command) : List Micro :=
  [.loadCb c, .setWIdx 0#5] ++ wordSteps p (cwordBits c.1.opcode) ++ paramSteps p 1 (sentParams c) ++
    delaySteps c.1.postDelay

/-- SEND (R110). A record that is not well formed is no Command and is refused (R75, R82). -/
def execSend (c : CommandRec) (s : State) : Host.Outcome State Fault Refusal :=
  match checkCommand c with
  | some c' => runInternal s (sendSteps s.params c')
  | none => .refused .illFormedCommand

/-- CMD: the Command record is executed by `send` (R74, R78, R110). -/
def execCmd (c : CommandRec) (s : State) : Host.Outcome State Fault Refusal :=
  match checkCommand c with
  | some c' => runInternal s (sendSteps s.params c')
  | none => .refused .illFormedCommand

/-- SETBRT b: `send(SETBRT(b))` (R77, R152). -/
def execSetbrt (b : Byte) (s : State) : Host.Outcome State Fault Refusal :=
  runInternal s (sendSteps s.params (setbrtCommand s.params b))

end Sys2Proof.Machine
end

