-- ==== Sys2Proof/Machine/Play.lean ====
section
/-! DEFINITION. The Sequence Player (spec 42_sequence_player): PLAY. -/

namespace Sys2Proof.Machine

/-- From entry k on, n entries: fetch `MemRead((seq, k), 1)`, send it, then `SP.idx <- SP.idx + 1` (R25,
R65, R120). -/
def playFrom (p : Params) (h : PanelHandle) (sid : SeqId) : Nat → Nat → List Micro
  | 0, _ => []
  | n + 1, k =>
    match memRead h ⟨sid, k⟩ with
    | some c => sendSteps p c ++ .setSp ⟨sid, k + 1⟩ :: playFrom p h sid n (k + 1)
    | none => []

/-- The steps of `play(s)`: `SP <- (s, 0)`, then every entry in order until `SP.idx == len(s)` (R120,
R121). -/
def playSteps (p : Params) (h : PanelHandle) (sid : SeqId) : List Micro :=
  .setSp ⟨sid, 0⟩ :: playFrom p h sid (activeSeq h sid).length 0

/-- PLAY (R120). -/
def execPlay (sid : SeqId) (s : State) : Host.Outcome State Fault Refusal :=
  runInternal s (playSteps s.params s.handle sid)

end Sys2Proof.Machine
end

