-- ==== Sys2Proof/Machine/Power.lean ====
section
/-! DEFINITION. The Power Sequencer (spec 43_power_sequencer): SET_POWER_ON and SET_POWER_OFF. -/

namespace Sys2Proof.Machine

/-- A rail call, skipped for an absent rail (R131, R133, R136). The result of the call is discarded
(R195, D5). -/
def railSteps (h : PanelHandle) (r : Rail) (e : Level) : List Micro :=
  if getRail h.present r then [rail r e] else []

/-- The seven steps of `set_power(ON)` (R131). -/
def powerOnSteps (p : Params) (h : PanelHandle) : List Micro :=
  [drive .rst rstOn, hold] ++ railSteps h .vci true ++ [hold] ++ railSteps h .vdd3 true ++ [hold] ++
    [drive .rst rstOff, sleepMs Config.settleMs] ++ playSteps p h .onSeq ++ [.setPower .on]

/-- The five steps of `set_power(OFF)` (R133). -/
def powerOffSteps (p : Params) (h : PanelHandle) : List Micro :=
  playSteps p h .offSeq ++ [drive .rst rstOn] ++ railSteps h .vdd3 false ++ railSteps h .vci false ++
    [.setPower .off]

/-- SET_POWER_ON (R131). It must not be invoked when `POWER` is ON already: refused (R135, D7). -/
def execSetPowerOn (s : State) : Host.Outcome State Fault Refusal :=
  match s.handle.power with
  | .off => runInternal s (powerOnSteps s.params s.handle)
  | .on => .refused (.powerAlreadyThere .on)

/-- SET_POWER_OFF (R133). It must not be invoked when `POWER` is OFF already: refused (R135, D7). -/
def execSetPowerOff (s : State) : Host.Outcome State Fault Refusal :=
  match s.handle.power with
  | .on => runInternal s (powerOffSteps s.params s.handle)
  | .off => .refused (.powerAlreadyThere .off)

end Sys2Proof.Machine
end

