-- ==== Sys2Proof/Machine/Brightness.lean ====
section
/-! DEFINITION. The Brightness Controller (spec 44_brightness_controller): UPDATE, UPDATE_STATUS,
GET_CURRENT_BRIGHTNESS. -/

namespace Sys2Proof.Machine

/-- The "set brightness" Command of an update that ends with this power state: sent only while ON
(R151, R152, R154). -/
def brightnessSteps (p : Params) (after : Power) (b : Byte) : List Micro :=
  if sendsBrightness after then sendSteps p (setbrtCommand p b) else []

/-- The power transition of an update: none when the wanted state is the current one (R151, R154). -/
def transitionSteps (p : Params) (h : PanelHandle) (target : Power) : List Micro :=
  match target, h.power with
  | .on, .off => powerOnSteps p h
  | .off, .on => powerOffSteps p h
  | .on, .on => []
  | .off, .off => []

/-- The steps of `update(b, blanked, suspended)` (R151): `BRT <- b` in every case (D8). -/
def updateSteps (p : Params) (h : PanelHandle) (b : Byte) (blanked suspended : Bool) : List Micro :=
  .setBrt b :: transitionSteps p h (shouldBeOn blanked suspended) ++
    brightnessSteps p (shouldBeOn blanked suspended) b

/-- UPDATE (R151). -/
def execUpdate (b : Byte) (blanked suspended : Bool) (s : State) :
    Host.Outcome State Fault Refusal :=
  runInternal s (updateSteps s.params s.handle b blanked suspended)

/-- UPDATE_STATUS (R150): latch the three inputs (D9), update, return success (D10). -/
def execUpdateStatus (b : Byte) (blankState suspendState : Bool) (s : State) :
    Host.Outcome State Fault Refusal :=
  acceptAttached s
    (.setReq ⟨b, blankState, suspendState⟩ ::
      updateSteps s.params s.handle b blankState suspendState)
    .success

/-- GET_CURRENT_BRIGHTNESS (R153): no event, no register, one result. -/
def execGetCurrentBrightness (s : State) : Host.Outcome State Fault Refusal :=
  acceptAttached s [] (.brightness (effectiveBrightness s.handle))

end Sys2Proof.Machine
end

