-- ==== Sys2Proof/Machine/Lifecycle.lean ====
section
/-! DEFINITION. The Lifecycle Manager (spec 45_lifecycle): ATTACH, DETACH, SUSPEND, RESUME. -/

namespace Sys2Proof.Machine

/-- The order in which lines are claimed and made outputs (R165, D15). -/
def claimOrder : List Line := [.cs, .scl, .sda, .rst]

/-- Make a line an output right after its claim, when the policy says so (R165, D16). -/
def dirAfterClaim (p : Params) (l : Line) : List Micro :=
  match p.dirOutPolicy with
  | .afterEachClaim => [dirOutput l (initLevel p l)]
  | .afterAllClaims => []

/-- Make the lines outputs after all the claims, when the policy says so (R165, D16). -/
def dirAfterClaims (p : Params) : List Micro :=
  match p.dirOutPolicy with
  | .afterEachClaim => []
  | .afterAllClaims => claimOrder.map fun l => dirOutput l (initLevel p l)

/-- Claim the lines in order, then go on with `k`; at the first line that cannot be claimed, roll back
and raise the error (R165, R192). `claimed` is most recent first. -/
def claimSteps (p : Params) (claimable : Lines Bool) (k : List Micro) :
    List Line → List Line → List Micro
  | _, [] => k
  | claimed, l :: ls =>
    if getLine claimable l then
      claim l true :: dirAfterClaim p l ++ claimSteps p claimable k (l :: claimed) ls
    else claim l false :: raiseResourceUnavailable claimed l

/-- The Panel Handle as attach creates it (R165 step 2, R28); the lookups come later (R165 step 3). -/
def newHandle (cfg : AttachConfig) (on off : List Command) : PanelHandle where
  lineId := cfg.lineId
  present := ⟨false, false⟩
  power := .off
  brt := Config.defaultBrightness
  onSeq := on
  offSeq := off

/-- The Brightness Device as attach creates it (R165 step 4). -/
def newBrightness : BrightnessDevice := ⟨Config.defaultBrightness, false, false⟩

/-- What attach does once every line is claimed (R165): outputs, handle, lookups, device, the initial
update, `LIFE <- ATTACHED`. -/
def createSteps (p : Params) (cfg : AttachConfig) (on off : List Command) : List Micro :=
  dirAfterClaims p ++ [.createHandle (newHandle cfg on off), lookup .vci cfg.found.vci,
    lookup .vdd3 cfg.found.vdd3, newDevice, .setReq newBrightness] ++
    updateSteps p { newHandle cfg on off with present := cfg.found } Config.defaultBrightness
      false false ++ [.setLife .attached, .ret .success]

/-- ATTACH (R165), legal while detached and not busy (R205). An ill-formed configuration is refused
before any claim (R197). -/
def execAttach (cfg : AttachConfig) (s : State) : Host.Outcome State Fault Refusal :=
  if s.busy then .refused .busy
  else
    match s.life with
    | .attached => .refused .alreadyAttached
    | .detached =>
      match chooseSequence cfg.onOverride s.params.defaultOnSeq,
          chooseSequence cfg.offOverride s.params.defaultOffSeq with
      | some on, some off =>
        .next ({ s with busy := true }.start
          (claimSteps s.params cfg.claimable (createSteps s.params cfg on off) [] claimOrder))
      | _, _ => .refused .illFormedCommand

/-- Power OFF if ON (R85, R170, R173). -/
def forceOffSteps (p : Params) (h : PanelHandle) : List Micro :=
  match h.power with
  | .on => powerOffSteps p h
  | .off => []

/-- Release a regulator handle if it is held (R170, D17). -/
def releaseRegSteps (h : PanelHandle) (r : Rail) : List Micro :=
  if getRail h.present r then [releaseReg r] else []

/-- The steps of detach (R170). -/
def detachSteps (p : Params) (h : PanelHandle) : List Micro :=
  forceOffSteps p h ++ claimOrder.reverse.map release ++ releaseRegSteps h .vci ++
    releaseRegSteps h .vdd3 ++ [deleteDevice, .destroy, .setLife .detached]

/-- DETACH (R170). -/
def execDetach (s : State) : Host.Outcome State Fault Refusal :=
  acceptAttached s (detachSteps s.params s.handle) .nothing

/-- The steps of suspend (R173). While OFF it does nothing, or, with SUSPEND_WHEN_OFF = replay, it runs
the steps of `set_power(OFF)` anyway (D6). -/
def suspendSteps (p : Params) (h : PanelHandle) : List Micro :=
  match h.power, p.suspendWhenOff with
  | .on, _ => powerOffSteps p h
  | .off, .skip => []
  | .off, .replay => powerOffSteps p h

/-- SUSPEND (R173): `REQ_*` and `BRT` are left alone. -/
def execSuspend (s : State) : Host.Outcome State Fault Refusal :=
  acceptAttached s (suspendSteps s.params s.handle) .nothing

/-- RESUME (R175): `update` with the last known inputs. -/
def execResume (s : State) : Host.Outcome State Fault Refusal :=
  acceptAttached s
    (updateSteps s.params s.handle s.device.reqBrt s.device.reqBlank s.device.reqSusp) .nothing

end Sys2Proof.Machine
end

