-- ==== Sys2Proof/Machine/Dispatch.lean ====
section
/-! DEFINITION. exec: one arm per constructor of Instr, each one call of its meaning. -/

namespace Sys2Proof.Machine

def exec (i : Instr) (s : State) : Host.Outcome State Fault Refusal :=
  match i with
  | .cword b => Sys2Proof.Machine.execCword b s
  | .pword b => Sys2Proof.Machine.execPword b s
  | .cmd c => Sys2Proof.Machine.execCmd c s
  | .setbrt b => Sys2Proof.Machine.execSetbrt b s
  | .transmitWord w => Sys2Proof.Machine.execTransmitWord w s
  | .send c => Sys2Proof.Machine.execSend c s
  | .play q => Sys2Proof.Machine.execPlay q s
  | .setPowerOn => Sys2Proof.Machine.execSetPowerOn s
  | .setPowerOff => Sys2Proof.Machine.execSetPowerOff s
  | .update b bl su => Sys2Proof.Machine.execUpdate b bl su s
  | .updateStatus b bl su => Sys2Proof.Machine.execUpdateStatus b bl su s
  | .getCurrentBrightness => Sys2Proof.Machine.execGetCurrentBrightness s
  | .attach cfg => Sys2Proof.Machine.execAttach cfg s
  | .detach => Sys2Proof.Machine.execDetach s
  | .suspend => Sys2Proof.Machine.execSuspend s
  | .resume => Sys2Proof.Machine.execResume s

end Sys2Proof.Machine
end

