-- ==== Sys2Proof/Machine/Fetch.lean ====
section
/-! DEFINITION. Taking the next request (spec 60_exceptions R199, R201, R206): decoding it, and refusing
an internal operation that the host asks for. -/

namespace Sys2Proof.Machine

/-- Whether a caller may invoke an instruction: the host reaches the block only through the external
operations (R199 (4), R206); the block invokes the internal ones (R85). -/
def mayInvoke (c : Caller) (i : Instr) : Bool :=
  match c with
  | .host => i.external
  | .block => true

/-- The instruction of a request, or why it is refused. -/
def fetchRequest (r : Request) : Except Refusal Instr :=
  match decode r.format r.fields with
  | .error e => .error (.undecodable e)
  | .ok i => if mayInvoke r.caller i then .ok i else .error .internalOperation

/-- The request for the instruction whose opcode-table bits are `w`: made by the host when it is an
external operation, by the block otherwise. -/
def tableRequest (nbits w : Nat) : Request where
  caller :=
    match decodeTableWord nbits w with
    | some i => if i.external then .host else .block
    | none => .host
  format := tableFormat nbits
  fields := tableFields nbits w

/-- Place a request where the step takes the next one: nothing in flight before it. -/
def placeRequest (s : State) (r : Request) : State :=
  { s with pending := [], requests := r :: s.requests }

end Sys2Proof.Machine
end

