-- ==== Sys2Proof/Machine/Step.lean ====
section
/-! DEFINITION. One step of the block: an operation in flight goes on by one event (spec 10_state R36,
60_exceptions R209); with nothing in flight the next request is taken (R201); with none the block rests. -/

namespace Sys2Proof.Machine

/-- One step. -/
def step (s : State) : Host.Outcome State Fault Refusal :=
  match s.pending with
  | m :: ms => .next (m.perform { s with pending := ms })
  | [] =>
    match s.requests with
    | [] => .next s
    | r :: rest =>
      match fetchRequest r with
      | .error e => .refused e
      | .ok i => exec i { s with requests := rest }

/-- The state whose very next step runs the instruction with these opcode-table bits. -/
def State.withFetchWord (s : State) (nbits w : Nat) : State := placeRequest s (tableRequest nbits w)

end Sys2Proof.Machine
end

