-- ==== Sys2Proof/Safety.lean ====
section
/-! DEFINITION. What claims about a run are said in: the reference receiver (spec 40 R105), minimum
durations (00 R11), electrical transitions (40 R102), the order-and-ownership monitor of the hazards (70
R226, R230, R231; 43 R134; 60 R205), and the invariants of a quiescent block (10 R34, R35, R39; 60 R205). -/

namespace Sys2Proof.Safety

open Sys2Proof.Machine

/-! ### The reference receiver (R105, D4): a checker of traces, not part of the block -/

/-- What a closed chip-select frame held. -/
inductive RxItem where
  | word (w : Word9)
  | malformed (n : Nat)
deriving DecidableEq, Repr, Inhabited

/-- The receiver's view of the three serial lines, the samples of the open frame, and the words so far. -/
structure Receiver where
  cs : Option Level
  scl : Option Level
  sda : Option Level
  acc : List (Option Level)
  out : List RxItem
deriving DecidableEq, Repr, Inhabited

def Receiver.init : Receiver := ⟨none, none, none, [], []⟩

/-- A sample as a bit; a level that was never written is unknown and makes the frame malformed. -/
def sampleBits : List (Option Level) → Option (List Bool)
  | [] => some []
  | none :: _ => none
  | some b :: xs => (sampleBits xs).map (b :: ·)

/-- Nine samples as a word, the first sample being bit 8. -/
def frameItem (acc : List (Option Level)) : RxItem :=
  match sampleBits acc with
  | some [b8, b7, b6, b5, b4, b3, b2, b1, b0] =>
    .word (BitVec.ofBool b8 ++ BitVec.ofBool b7 ++ BitVec.ofBool b6 ++ BitVec.ofBool b5 ++
      BitVec.ofBool b4 ++ BitVec.ofBool b3 ++ BitVec.ofBool b2 ++ BitVec.ofBool b1 ++
      BitVec.ofBool b0)
  | _ => .malformed acc.length

/-- One event of the trace (R105). -/
def rxStep (p : Params) (r : Receiver) (e : Event) : Receiver :=
  match e with
  | .w .cs v =>
    { r with
      cs := some v
      acc := if v = csOn p ∧ r.cs ≠ some (csOn p) then [] else r.acc
      out := if v = csOff p ∧ r.cs = some (csOn p) then r.out ++ [frameItem r.acc] else r.out }
  | .w .scl v =>
    { r with
      scl := some v
      acc := if r.cs = some (csOn p) ∧ r.scl = some false ∧ v = true then r.acc ++ [r.sda]
        else r.acc }
  | .w .sda v => { r with sda := some v }
  | .w .rst _ => r
  | .h => r
  | .s _ => r
  | .rail _ _ => r
  | .claim _ _ => r
  | .dir _ _ => r
  | .rel _ => r
  | .lookup _ _ => r
  | .regRel _ => r
  | .bdNew => r
  | .bdDel => r

/-- `decode(T)` of R105. -/
def decodeTrace (p : Params) (t : List Event) : List RxItem := (t.foldl (rxStep p) Receiver.init).out

/-! ### Durations and transitions -/

/-- The minimum duration of one event, in microseconds (R8, R11). -/
def eventUs : Event → Nat
  | .h => Config.holdUs
  | .s n => 1000 * n
  | .w _ _ => 0
  | .rail _ _ => 0
  | .claim _ _ => 0
  | .dir _ _ => 0
  | .rel _ => 0
  | .lookup _ _ => 0
  | .regRel _ => 0
  | .bdNew => 0
  | .bdDel => 0

/-- `dur_min(T)` of R11, in microseconds. -/
def durMin (t : List Event) : Nat := (t.map eventUs).sum

def isWrite : Event → Bool
  | .w _ _ => true
  | _ => false

def isHold : Event → Bool
  | .h => true
  | _ => false

def isRail : Event → Bool
  | .rail _ _ => true
  | _ => false

/-- A write of one of the three serial lines: part of a word. -/
def isSerial : Event → Bool
  | .w .cs _ => true
  | .w .scl _ => true
  | .w .sda _ => true
  | _ => false

/-- How many times the level of line l changes along a trace, from the level it starts at (R102, D3). -/
def edges (l : Line) (v : Level) : List Event → Nat
  | [] => 0
  | .w l' v' :: t => if l' = l then (if v' = v then 0 else 1) + edges l v' t else edges l v t
  | _ :: t => edges l v t

/-! ### The hazard monitor -/

/-- What the trace says of the panel's reset: not driven, asserted, released, released and settled. -/
inductive ResetPhase where
  | undriven | asserted | released | settled
deriving DecidableEq, Repr, Inhabited

/-- The monitor's memory: ownership, the reset phase, whether the minimum hold after the last reset
assertion or rail enable (R231) or after the last serial write (R226) is still to come, whether the block
has VDD3 enabled (R230), and whether every rule was kept so far. -/
structure Monitor where
  owned : Lines Bool
  phase : ResetPhase
  holdDue : Bool
  serialDue : Bool
  vdd3On : Bool
  ok : Bool
deriving DecidableEq, Repr, Inhabited

def Monitor.init : Monitor := ⟨⟨false, false, false, false⟩, .undriven, false, false, false, true⟩

/-- Whether the hold after this serial write is required: always, but after the chip-select assertion
only with HOLD_AFTER_CS_ASSERT (R101, R226, D2). -/
def holdRequired (p : Params) (l : Line) (v : Level) : Bool :=
  p.holdAfterCsAssert || !(decide (l = .cs) && decide (v = csOn p))

/-- One event: which rules of order it must keep. A serial write needs an owned line (R205), a settled
panel (R230, R231) and the hold after the previous one (R226); reset is released only from asserted, after
the hold (R134, R231); a rail is enabled only in reset and after the hold, and disabled only in reset
(R134, R230); VCI is switched, on or off, only while VDD3 is not enabled, so that VCI comes first on the way
up and last on the way down (R230); no line is driven or made an output while not owned (R205). -/
def monStep (p : Params) (m : Monitor) (e : Event) : Monitor :=
  match e with
  | .w .rst v =>
    if v = rstOn then
      { m with phase := .asserted, holdDue := true, ok := m.ok && m.owned.rst }
    else
      { m with
        phase := .released
        ok := m.ok && m.owned.rst && decide (m.phase = .asserted) && !m.holdDue }
  | .w .cs v =>
    { m with
      serialDue := holdRequired p .cs v
      ok := m.ok && m.owned.cs && decide (m.phase = .settled) && !m.serialDue }
  | .w .scl v =>
    { m with
      serialDue := holdRequired p .scl v
      ok := m.ok && m.owned.scl && decide (m.phase = .settled) && !m.serialDue }
  | .w .sda v =>
    { m with
      serialDue := holdRequired p .sda v
      ok := m.ok && m.owned.sda && decide (m.phase = .settled) && !m.serialDue }
  | .h => { m with holdDue := false, serialDue := false }
  | .s n => if m.phase = .released ∧ Config.settleMs ≤ n then { m with phase := .settled } else m
  | .rail r e =>
    { m with
      holdDue := e || m.holdDue
      vdd3On := if r = .vdd3 then e else m.vdd3On
      ok := m.ok && decide (m.phase = .asserted) && !(e && m.holdDue) &&
        !(decide (r = .vci) && m.vdd3On) }
  | .claim l ok => if ok then { m with owned := setLine m.owned l true } else m
  | .dir l v =>
    { m with
      ok := m.ok && getLine m.owned l
      phase := if l = .rst then (if v = rstOn then .asserted else .released) else m.phase }
  | .rel l =>
    { m with
      owned := setLine m.owned l false
      phase := if l = .rst then .undriven else m.phase }
  | .lookup _ _ => m
  | .regRel _ => m
  | .bdNew => m
  | .bdDel => m

def monitor (p : Params) (t : List Event) : Monitor := t.foldl (monStep p) Monitor.init

/-! ### Invariants of the quiescent block -/

/-- Every request still to come is the host's. -/
def HostScript (s : State) : Prop := ∀ r ∈ s.requests, r.caller = .host

/-- What holds at every quiescent point of a host-driven run: the two invariants of R34, the line
invariant of R35, ownership by lifecycle state (R39, R192, R205), and that the inputs latched while ON
are unblanked and are the recorded brightness (R175, R150). -/
structure Quiescent (s : State) : Prop where
  notBusy : s.busy = false
  ownsAll : s.life = .attached → ∀ l, getLine s.owned l = true ∧ getLine s.dirOut l = true
  ownsNone : s.life = .detached → ∀ l, getLine s.owned l = false ∧ getLine s.dirOut l = false
  serialIdle : s.life = .attached → s.line.cs = csOff s.params ∧ s.line.scl = true ∧
    s.line.sda = s.work.shr.getLsbD 0
  whileOn : s.life = .attached → s.handle.power = .on →
    s.line.rst = true ∧
    (∀ r, getRail s.handle.present r = true → getRail s.railEn r = true) ∧
    s.work.sp = ⟨.onSeq, s.handle.onSeq.length⟩ ∧
    s.work.cb.opcode = s.params.brightnessOpcode ∧ s.work.cb.count = 1#4 ∧
    s.work.cb.param[0] = s.handle.brt ∧ s.work.cb.postDelay = 0 ∧
    s.work.shr = pwordBits s.handle.brt
  whileOff : s.life = .attached → s.handle.power = .off →
    s.line.rst = false ∧
    (∀ r, getRail s.handle.present r = true → getRail s.railEn r = false) ∧
    s.work.sp = ⟨.offSeq, s.handle.offSeq.length⟩
  inputs : s.life = .attached → s.handle.power = .on →
    s.device.reqBrt = s.handle.brt ∧ s.device.reqBlank = false ∧ s.device.reqSusp = false

/-- The invariant of a host-driven run: the requests to come are the host's, and once what is in flight
has run to completion the block is quiescent. -/
def BlockInv (s : State) : Prop := HostScript s ∧ Quiescent s.finish

/-- What the monitor remembers of a trace that kept every rule, for a quiescent block: it agrees with
`LIFE`, `POWER` and the presence of VDD3. -/
structure HazardFree (s : State) : Prop where
  ok : (monitor s.params s.trace).ok = true
  held : (monitor s.params s.trace).serialDue = false
  owned : ∀ l, getLine (monitor s.params s.trace).owned l = getLine s.owned l
  phaseOn : s.life = .attached → s.handle.power = .on →
    (monitor s.params s.trace).phase = .settled
  phaseOff : s.life = .attached → s.handle.power = .off →
    (monitor s.params s.trace).phase = .asserted
  vdd3 : (monitor s.params s.trace).vdd3On = true →
    s.life = .attached ∧ s.handle.power = .on ∧ getRail s.handle.present .vdd3 = true

/-- The hazard invariant of a host-driven run whose suspend skips an OFF panel (D6). -/
def HazardInv (s : State) : Prop :=
  BlockInv s ∧ s.params.suspendWhenOff = .skip ∧ HazardFree s.finish

end Sys2Proof.Safety
end

