-- ==== Sys2Proof/Certificates/Slice0/Obligations.lean ====
section
/-! DEFINITION. The statements for the provers, each an obligation, and the words they are said in: the
events of a word, a Command and a sequence written out from the pseudocode of spec 40 to 45, and the
state each operation ends in. Nothing here is used by the model. `t.finish` is the state after everything
in flight has run to completion; with the granularity of `State.reset` it is `t` itself (statement
WholeOperationInOneStep), and with the other it is reached by single steps (StepwiseReachesTheSameState).
A rule that the spec itself marks as derived or as a decision (Dn) is named in a docstring for the reader;
"assumption n" is notes/assumptions/n.md, a choice that the statement rests on. -/

namespace Sys2Proof.Claims

open Sys2Proof.Machine Sys2Proof.Safety

/-! ### Traces written out -/

/-- One bit of a word on the wire (R100). -/
def bitEvents (w : Word9) (i : Nat) : List Event :=
  [.w .scl false, .h, .w .sda (w.getLsbD i), .h, .w .scl true, .h]

/-- The events of one word (R100), bit 8 first, with the hold of D2 as the parameter says. -/
def wordEvents (p : Params) (w : Word9) : List Event :=
  [.w .cs (csOff p), .h, .w .scl true, .h, .w .cs (csOn p)] ++
    (if p.holdAfterCsAssert then [.h] else []) ++
    (bitEvents w 8 ++ bitEvents w 7 ++ bitEvents w 6 ++ bitEvents w 5 ++ bitEvents w 4 ++
      bitEvents w 3 ++ bitEvents w 2 ++ bitEvents w 1 ++ bitEvents w 0) ++
    [.w .cs (csOff p), .h]

/-- The events of one Command (R110): its words, then S(post_delay) unless it is 0. -/
def commandEvents (p : Params) (c : Command) : List Event :=
  (wordsOf c).flatMap (wordEvents p) ++
    (if c.1.postDelay = 0 then [] else [.s c.1.postDelay])

/-- The events of a sequence (R120). -/
def sequenceEvents (p : Params) (q : List Command) : List Event := q.flatMap (commandEvents p)

/-- The call on a rail, skipped when the rail is absent (R131, R136). -/
def railEvents (h : PanelHandle) (r : Rail) (e : Level) : List Event :=
  if getRail h.present r then [.rail r e] else []

/-- The events of the ON transition before its sequence (R131, steps 1 to 5). -/
def riseEvents (h : PanelHandle) : List Event :=
  [.w .rst false, .h] ++ railEvents h .vci true ++ [.h] ++ railEvents h .vdd3 true ++ [.h] ++
    [.w .rst true, .s 10]

/-- The events of the OFF transition after its sequence (R133, steps 2 to 4). -/
def fallEvents (h : PanelHandle) : List Event :=
  [.w .rst false] ++ railEvents h .vdd3 false ++ railEvents h .vci false

/-- The events of the whole ON transition (R131). -/
def powerOnEvents (p : Params) (h : PanelHandle) : List Event :=
  riseEvents h ++ sequenceEvents p h.onSeq

/-- The events of the whole OFF transition (R133). -/
def powerOffEvents (p : Params) (h : PanelHandle) : List Event :=
  sequenceEvents p h.offSeq ++ fallEvents h

/-- The last word of a Command. -/
def lastWord (c : Command) : Word9 := (wordsOf c).getLastD 0#9

/-- Claims and outputs of a successful attach, by DIR_OUT_POLICY (R165, D15, D16). -/
def claimEvents (p : Params) : List Event :=
  match p.dirOutPolicy with
  | .afterAllClaims =>
    [.claim .cs true, .claim .scl true, .claim .sda true, .claim .rst true,
      .dir .cs (csOff p), .dir .scl true, .dir .sda false, .dir .rst false]
  | .afterEachClaim =>
    [.claim .cs true, .dir .cs (csOff p), .claim .scl true, .dir .scl true,
      .claim .sda true, .dir .sda false, .claim .rst true, .dir .rst false]

/-! ### The state each operation ends in -/

/-- After `transmit_word(w)` (R100, R103). -/
def afterWord (s : State) (w : Word9) : State :=
  { s with
    line := { s.line with cs := csOff s.params, scl := true, sda := w.getLsbD 0 }
    work := { s.work with shr := w, bitIdx := 0#4 }
    trace := s.trace ++ wordEvents s.params w }

/-- After `send(c)` (R110). -/
def afterSend (s : State) (c : Command) : State :=
  { s with
    line := { s.line with cs := csOff s.params, scl := true, sda := (lastWord c).getLsbD 0 }
    work :=
      { s.work with
        cb := loadBuffer s.work.cb c
        shr := lastWord c
        bitIdx := 0#4
        wIdx := BitVec.ofNat 5 c.1.parameterCount }
    trace := s.trace ++ commandEvents s.params c }

/-- After `play(sid)` (R120): every entry sent in order, `SP` at the end of the sequence. -/
def afterPlay (s : State) (sid : SeqId) : State :=
  let q := activeSeq s.handle sid
  let s' := q.foldl afterSend s
  { s' with work := { s'.work with sp := ⟨sid, q.length⟩ } }

/-- The rail latches after every present rail was set to e. -/
def railsAfter (h : PanelHandle) (e : Level) (x : Rails Level) : Rails Level :=
  ⟨if h.present.vci then e else x.vci, if h.present.vdd3 then e else x.vdd3⟩

/-- After `set_power(ON)` (R131). -/
def afterPowerOn (s : State) : State :=
  let s' := afterPlay
    { s with
      line := { s.line with rst := true }
      railEn := railsAfter s.handle true s.railEn
      trace := s.trace ++ riseEvents s.handle } .onSeq
  { s' with handle := { s'.handle with power := .on } }

/-- After `set_power(OFF)` (R133). -/
def afterPowerOff (s : State) : State :=
  let s' := afterPlay s .offSeq
  { s' with
    line := { s'.line with rst := false }
    railEn := railsAfter s.handle false s'.railEn
    handle := { s'.handle with power := .off }
    trace := s'.trace ++ fallEvents s.handle }

/-- After `update(b, blanked, suspended)` (R151, R154). -/
def afterUpdate (s : State) (b : Byte) (blanked suspended : Bool) : State :=
  let s' : State := { s with handle := { s.handle with brt := b } }
  if blanked = false ∧ suspended = false then
    match s.handle.power with
    | .on => afterSend s' (setbrtCommand s.params b)
    | .off => afterSend (afterPowerOn s') (setbrtCommand s.params b)
  else
    match s.handle.power with
    | .on => afterPowerOff s'
    | .off => s'

/-- After a successful attach (R165). -/
def afterAttach (s : State) (cfg : AttachConfig) (on off : List Command) : State :=
  let s' := afterUpdate
    { s with
      owned := ⟨true, true, true, true⟩
      dirOut := ⟨true, true, true, true⟩
      line := ⟨csOff s.params, true, false, false⟩
      handle :=
        { lineId := cfg.lineId
          present := cfg.found
          power := .off
          brt := 255#8
          onSeq := on
          offSeq := off }
      device := ⟨255#8, false, false⟩
      trace := s.trace ++ claimEvents s.params ++
        [.lookup .vci cfg.found.vci, .lookup .vdd3 cfg.found.vdd3, .bdNew] } 255#8 false false
  { s' with life := .attached, result := .success }

/-- After the release of one line (R170, D22): a line that was an output takes a free level. -/
def afterRelease (s : State) (l : Line) : State :=
  if getLine s.dirOut l then
    { s with
      owned := setLine s.owned l false
      dirOut := setLine s.dirOut l false
      line := setLine s.line l (Config.freeLevel s.draws)
      draws := s.draws + 1
      trace := s.trace ++ [.rel l] }
  else { s with owned := setLine s.owned l false, trace := s.trace ++ [.rel l] }

/-- After detach (R170, R39): OFF first if ON, then the releases; the registers of the Panel Handle and
the Brightness Device, and the working registers, are free values. -/
def afterDetach (s : State) : State :=
  let s1 := match s.handle.power with
    | .on => afterPowerOff s
    | .off => s
  let s2 := [Line.rst, Line.sda, Line.scl, Line.cs].foldl afterRelease s1
  { s2 with
    life := .detached
    handle := Config.freeHandle s2.draws
    device := Config.freeDevice s2.draws
    work := Config.freeWork s2.draws
    draws := s2.draws + 1
    result := .nothing
    trace := s2.trace ++ (if s.handle.present.vci then [.regRel .vci] else []) ++
      (if s.handle.present.vdd3 then [.regRel .vdd3] else []) ++ [.bdDel] }

/-- After suspend (R173), with both values of SUSPEND_WHEN_OFF (D6). -/
def afterSuspend (s : State) : State :=
  match s.handle.power, s.params.suspendWhenOff with
  | .on, _ => { afterPowerOff s with result := .nothing }
  | .off, .skip => { s with result := .nothing }
  | .off, .replay => { afterPowerOff s with result := .nothing }

/-! ### Words of the statements -/

/-- The sequence attach makes active is the override's records if one is given, else the default (R165). -/
def Chosen (override : Option (List CommandRec)) (dflt chosen : List Command) : Prop :=
  match override with
  | none => chosen = dflt
  | some records => chosen.map Subtype.val = records

/-- The instruction answers a next state, and by its end it has appended exactly these events. -/
def Emits (i : Instr) (s : State) (events : List Event) : Prop :=
  ∃ t, exec i s = .next t ∧ t.finish.trace = s.trace ++ events

/-- An external operation is legal now: attached, and nothing in flight (R205). -/
def Ready (s : State) : Prop := s.life = .attached ∧ s.busy = false ∧ s.pending = []

/-- The level of a line after the writes of a trace, if it was written at all. -/
def lastLevel (l : Line) (t : List Event) : Option Level :=
  t.foldl (fun o e => match e with
    | .w l' v => if l' = l then some v else o
    | _ => o) none

/-- The event with the data bit hidden. -/
def hideData : Event → Event
  | .w .sda _ => .w .sda false
  | e => e

/-- The minimum duration of one word in microseconds (R240). -/
def wordUs (p : Params) : Nat := if p.holdAfterCsAssert then 310 else 300

/-- The minimum duration of one Command in microseconds (R114). -/
def commandUs (p : Params) (c : Command) : Nat :=
  wordUs p * (1 + c.1.parameterCount) + 1000 * c.1.postDelay

/-- The minimum duration of a sequence in microseconds (R122). -/
def sequenceUs (p : Params) (q : List Command) : Nat := (q.map (commandUs p)).sum

/-- Lines claimed before l, in order (D15). -/
def claimedBefore : Line → List Line
  | .cs => []
  | .scl => [.cs]
  | .sda => [.cs, .scl]
  | .rst => [.cs, .scl, .sda]

/-- The reference receiver has seen only whole frames, and no frame is open. -/
def WholeFrames (s : State) : Prop :=
  (∀ x ∈ decodeTrace s.params s.trace, ∃ w, x = .word w) ∧
    (s.trace.foldl (rxStep s.params) Receiver.init).cs ≠ some (csOn s.params)

end Sys2Proof.Claims

open Sys2Proof Sys2Proof.Machine Sys2Proof.Safety Sys2Proof.Claims

/-! ## Encodings -/

/-- R73: a byte becomes a command word by a 0 in front of it, a parameter word by a 1 in front of it. -/
def Obligations.WordAssembly : Prop :=
  ∀ b : Byte,
    cwordBits b = 0#1 ++ b ∧ cwordBits b = b.setWidth 9 ∧ (cwordBits b).toNat = b.toNat ∧
    pwordBits b = 1#1 ++ b ∧ pwordBits b = 0x100#9 ||| b.setWidth 9 ∧
    (pwordBits b).toNat = 256 + b.toNat

/-- R71, R88: the form of a word is selected by the mask 0x100 alone, and its byte is bits 7:0; an
assembled word is read back as what it was assembled from. -/
def Obligations.WordFormsByFlag : Prop :=
  (∀ w : Word9, w &&& 0x100#9 = 0x000#9 → decodeWord w = .cword (w.setWidth 8)) ∧
  (∀ w : Word9, w &&& 0x100#9 = 0x100#9 → decodeWord w = .pword (w.setWidth 8)) ∧
  (∀ b : Byte, decodeWord (cwordBits b) = .cword b ∧ decodeWord (pwordBits b) = .pword b)

/-- A few words and selectors written out from the spec's encodings decode to what they stand for
(R71, R84). The number of table bits, the operand fields filled with zeros and a field 0 meaning ON_SEQ are
the model's own (assumption 12). -/
def Obligations.SpecEncodingsDecode : Prop :=
  decodeTableWord 16 0b000101010 = some (.cword 0x2A) ∧
  decodeTableWord 16 0b100101010 = some (.pword 0x2A) ∧
  decodeTableWord 8 0b0000 = some (.transmitWord 0) ∧
  decodeTableWord 8 0b0001 = some (.send ⟨0, 0, [], 0⟩) ∧
  decodeTableWord 8 0b0010 = some (.play .onSeq) ∧
  decodeTableWord 8 0b0011 = some .setPowerOn ∧
  decodeTableWord 8 0b0110 = some (.updateStatus 0 false false) ∧
  decodeTableWord 8 0b1001 = some .detach ∧
  decodeTableWord 8 0b1100 = none

/-- Decoding what the encoder writes gives the instruction back, for every well-formed instruction and
every value of its operands. The order of the fields is the model's own (assumption 12). -/
def Obligations.DecodeOfEncode : Prop :=
  ∀ i : Instr, i.wf = true → decode (encode i).1 (encode i).2 = .ok i

/-- Whatever decodes is well formed and is the one list of fields the encoder writes for it: no two
requests are the same instruction. The order of the fields is the model's own (assumption 12). -/
def Obligations.EncodeOfDecode : Prop :=
  ∀ (fmt : Format) (fields : List Nat) (i : Instr), decode fmt fields = .ok i →
    i.wf = true ∧ encode i = (fmt, fields)

/-- R83, R199 (5): a selector of 12 or more is refused by name, whatever follows it and whoever asks. That
a request is a list of fields with the selector first is the model's own (assumption 12). -/
def Obligations.UnassignedSelectorsRefused : Prop :=
  ∀ (s : State) (c : Caller) (n : Nat) (fields : List Nat) (rest : List Request),
    12 ≤ n → s.pending = [] → s.requests = ⟨c, .op, n :: fields⟩ :: rest →
    step s = .refused (.undecodable (.unassignedSelector n))

/-- R79: the receiver's grouping of the words of any sequence of Commands gives back their opcodes and
the parameters that were sent. -/
def Obligations.ReceiverGroupsCommands : Prop :=
  ∀ q : List Command,
    groupWords (q.flatMap wordsOf) = q.map fun c => (c.1.opcode, sentParams c)

/-! ## Signal Driver -/

/-- R100: `transmit_word(w)` always completes; it emits exactly the events of the pseudocode, leaves SHR
= w and BITIDX = 0, the serial lines as R103 says, and nothing else changes. -/
def Obligations.TransmitWordRuns : Prop :=
  ∀ (w : Word9) (s : State), s.pending = [] →
    ∃ t, exec (.transmitWord w) s = .next t ∧ t.finish = afterWord s w

/-- R71, R73, R100: `CWORD b` and `PWORD b` transmit the word assembled from b. -/
def Obligations.WordFormsRun : Prop :=
  ∀ (b : Byte) (s : State), s.pending = [] →
    (∃ t, exec (.cword b) s = .next t ∧ t.finish = afterWord s (0#1 ++ b)) ∧
    (∃ t, exec (.pword b) s = .next t ∧ t.finish = afterWord s (1#1 ++ b))

/-- R101: 31 line writes, 31 holds and 310 us, or 30 holds and 300 us without the hold after the
chip-select assertion; nine of the writes are of SDA, and the trace depends on the word in nothing else. -/
def Obligations.WordTraceSize : Prop :=
  ∀ (w w' : Word9) (s : State), s.pending = [] →
    ∃ e e', Emits (.transmitWord w) s e ∧ Emits (.transmitWord w') s e' ∧
      e.countP isWrite = 31 ∧
      e.countP isHold = (if s.params.holdAfterCsAssert then 31 else 30) ∧
      durMin e = (if s.params.holdAfterCsAssert then 310 else 300) ∧
      e.filter (fun x => decide (hideData x = .w .sda false)) =
        [8, 7, 6, 5, 4, 3, 2, 1, 0].map (fun i => .w .sda (w.getLsbD i)) ∧
      e.map hideData = e'.map hideData

/-- R106 (derived in the spec, and about the reference receiver of D4, assumption 17): the receiver reads
back every word that is transmitted, from whatever it has seen before, as long as no frame was left open. -/
def Obligations.WordRoundTrip : Prop :=
  ∀ (w : Word9) (s : State), s.pending = [] →
    ∃ e, Emits (.transmitWord w) s e ∧ decodeTrace s.params e = [.word w] ∧
      ∀ r : Receiver, r.cs ≠ some (csOn s.params) →
        (e.foldl (rxStep s.params) r).out = r.out ++ [.word w] ∧
        (e.foldl (rxStep s.params) r).cs = some (csOff s.params)

/-- R103: a data bit is written while SCL is 0 and CS is asserted, the next event but one is the rising
edge, and the one after it a hold; SCL is 1 whenever CS is asserted, and 1 when it is deasserted after the bits. -/
def Obligations.DataStableAtRisingEdge : Prop :=
  ∀ (w : Word9) (s : State), s.pending = [] →
    ∃ e, Emits (.transmitWord w) s e ∧
      (∀ pre v post, e = pre ++ .w .sda v :: post →
        lastLevel .scl pre = some false ∧ lastLevel .cs pre = some (csOn s.params) ∧
        ∃ rest, post = .h :: .w .scl true :: .h :: rest) ∧
      (∀ pre v post, e = pre ++ .w .cs v :: post → pre ≠ [] → lastLevel .scl pre = some true)

/-- R102: from idle lines a word makes CS change twice and SCL eighteen times, and SDA at most nine
times; writes of a level a line already has are performed and change nothing. -/
def Obligations.WordTransitions : Prop :=
  ∀ (w : Word9) (s : State), s.pending = [] → s.line.cs = csOff s.params → s.line.scl = true →
    ∃ e, Emits (.transmitWord w) s e ∧ edges .cs s.line.cs e = 2 ∧ edges .scl s.line.scl e = 18 ∧
      edges .sda s.line.sda e ≤ 9 ∧ edges .rst s.line.rst e = 0

/-! ## Command Transmitter -/

/-- R110: `send(c)` of a well-formed Command always completes: CB, WIDX, the words in order, the delay if
it is not 0, and nothing else. -/
def Obligations.SendRuns : Prop :=
  ∀ (c : CommandRec) (h : c.wf = true) (s : State), s.pending = [] →
    ∃ t, exec (.send c) s = .next t ∧ t.finish = afterSend s ⟨c, h⟩

/-- R74, R77, R152: a Command record is executed by `send`; SETBRT b is `send` of {BRIGHTNESS_OPCODE, 1,
[b], 0}. -/
def Obligations.CommandFormsRun : Prop :=
  (∀ (c : CommandRec) (h : c.wf = true) (s : State), s.pending = [] →
    ∃ t, exec (.cmd c) s = .next t ∧ t.finish = afterSend s ⟨c, h⟩) ∧
  (∀ (b : Byte) (s : State), s.pending = [] →
    ∃ t, exec (.setbrt b) s = .next t ∧
      t.finish = afterSend s ⟨⟨s.params.brightnessOpcode, 1, [b], 0⟩, rfl⟩)

/-- R78, R111: `send(c)` emits exactly 1 + parameter_count words, the first with high bit 0 and the
opcode, the following with high bit 1 and the parameters in array order, as the reference receiver (D4,
assumption 17) reads them. -/
def Obligations.SendReachesTheReceiver : Prop :=
  ∀ (c : CommandRec), c.wf = true → ∀ s : State, s.pending = [] →
    ∃ e ws, Emits (.send c) s e ∧ decodeTrace s.params e = List.map RxItem.word ws ∧
      ws.length = 1 + c.parameterCount ∧ ws[0]? = some (0#1 ++ c.opcode) ∧
      ∀ k, k < c.parameterCount → ws[k + 1]? = (c.parameters[k]?).map (fun b => 1#1 ++ b)

/-- R20, R21, R110: after `send(c)` the command buffer holds c. -/
def Obligations.BufferHoldsCommand : Prop :=
  ∀ (c : CommandRec), c.wf = true → ∀ s : State, s.pending = [] →
    ∃ t, exec (.send c) s = .next t ∧ t.finish.work.cb.opcode = c.opcode ∧
      t.finish.work.cb.count.toNat = c.parameterCount ∧
      t.finish.work.cb.postDelay = c.postDelay ∧
      t.finish.work.wIdx.toNat = c.parameterCount ∧
      ∀ k, k < c.parameterCount → t.finish.work.cb.param[k]? = c.parameters[k]?

/-- R114: the minimum duration of `send(c)`. -/
def Obligations.SendDuration : Prop :=
  ∀ (c : CommandRec), c.wf = true → ∀ s : State, s.pending = [] →
    ∃ e, Emits (.send c) s e ∧
      durMin e =
        (if s.params.holdAfterCsAssert then 310 else 300) * (1 + c.parameterCount) +
          1000 * c.postDelay

/-- R82, R197: an ill-formed Command is refused at construction, wherever it stands: in CMD, in SEND, in
either override of ATTACH (D13, assumption 27). -/
def Obligations.IllFormedCommandRefused : Prop :=
  (∀ (c : CommandRec) (s : State), c.wf = false →
    exec (.cmd c) s = .refused .illFormedCommand ∧
    exec (.send c) s = .refused .illFormedCommand) ∧
  (∀ (cfg : AttachConfig) (s : State), cfg.wf = false → s.busy = false → s.life = .detached →
    exec (.attach cfg) s = .refused .illFormedCommand)

/-! ## Sequence Player -/

/-- R120: `play(s)` always completes: every entry is sent in list order, none skipped, `SP` ends at the
length of the sequence, and nothing else changes. -/
def Obligations.PlayRuns : Prop :=
  ∀ (sid : SeqId) (s : State), s.pending = [] →
    ∃ t, exec (.play sid) s = .next t ∧ t.finish = afterPlay s sid

/-- R122: the receiver (D4, assumption 17) reads the words of the entries in order, and the minimum duration is the sum of
those of the entries. -/
def Obligations.PlayReachesTheReceiver : Prop :=
  ∀ (sid : SeqId) (s : State), s.pending = [] →
    ∃ e, Emits (.play sid) s e ∧
      decodeTrace s.params e = List.map RxItem.word ((activeSeq s.handle sid).flatMap wordsOf) ∧
      durMin e = sequenceUs s.params (activeSeq s.handle sid)

/-! ## Power Sequencer -/

/-- R131: `set_power(ON)` from OFF completes with the seven steps of the pseudocode. -/
def Obligations.SetPowerOnRuns : Prop :=
  ∀ s : State, s.pending = [] → s.handle.power = .off →
    ∃ t, exec .setPowerOn s = .next t ∧ t.finish = afterPowerOn s

/-- R133: `set_power(OFF)` from ON completes with the five steps of the pseudocode. -/
def Obligations.SetPowerOffRuns : Prop :=
  ∀ s : State, s.pending = [] → s.handle.power = .on →
    ∃ t, exec .setPowerOff s = .next t ∧ t.finish = afterPowerOff s

/-- R135, R199 (3): `set_power(target)` with `target == POWER` is refused (D7, assumption 20). -/
def Obligations.SetPowerToCurrentStateRefused : Prop :=
  ∀ s : State,
    (s.handle.power = .on → exec .setPowerOn s = .refused (.powerAlreadyThere .on)) ∧
    (s.handle.power = .off → exec .setPowerOff s = .refused (.powerAlreadyThere .off))

/-- R134: on the way up every rail enable precedes the release of reset, which precedes every event of
the sequence; on the way down every event of the sequence precedes the assertion of reset, which precedes
every rail disable. -/
def Obligations.TransitionOrder : Prop :=
  ∀ s : State, s.pending = [] →
    (s.handle.power = .off → ∃ pre post, Emits .setPowerOn s (pre ++ .w .rst true :: post) ∧
      (∀ x ∈ pre, isSerial x = false ∧ x ≠ .w .rst true) ∧
      (∀ r e, .rail r e ∈ pre ↔ e = true ∧ getRail s.handle.present r = true) ∧
      post = .s 10 :: sequenceEvents s.params s.handle.onSeq ∧ (∀ x ∈ post, isRail x = false)) ∧
    (s.handle.power = .on → ∃ post,
      Emits .setPowerOff s
        (sequenceEvents s.params s.handle.offSeq ++ .w .rst false :: post) ∧
      (∀ x ∈ sequenceEvents s.params s.handle.offSeq, isRail x = false ∧ ∀ v, x ≠ .w .rst v) ∧
      (∀ x ∈ post, isRail x = true) ∧
      (∀ r e, .rail r e ∈ post ↔ e = false ∧ getRail s.handle.present r = true))

/-- R139: run one event a step (assumption 1), a transition leaves `POWER` as it was until its last step, which writes
it. -/
def Obligations.PowerWrittenLast : Prop :=
  ∀ s : State, s.pending = [] → s.stepwise = true →
    (s.handle.power = .off → ∃ t, exec .setPowerOn s = .next t ∧
      ∀ k, k ≤ t.pending.length → ∃ u, Sys2Proof.core.run k t = .next u ∧
        u.handle.power = if k < t.pending.length then .off else .on) ∧
    (s.handle.power = .on → ∃ t, exec .setPowerOff s = .next t ∧
      ∀ k, k ≤ t.pending.length → ∃ u, Sys2Proof.core.run k t = .next u ∧
        u.handle.power = if k < t.pending.length then .on else .off)

/-- R138: the minimum durations of the two transitions. -/
def Obligations.TransitionDurations : Prop :=
  ∀ s : State, s.pending = [] →
    (s.handle.power = .off → ∃ e, Emits .setPowerOn s e ∧
      durMin e = 30 + 10000 + sequenceUs s.params s.handle.onSeq) ∧
    (s.handle.power = .on → ∃ e, Emits .setPowerOff s e ∧
      durMin e = sequenceUs s.params s.handle.offSeq)

/-! ## Brightness Controller -/

/-- R151, R154: the four cases of `update`. That `BRT` is written in all four is D8 (assumption 21). -/
def Obligations.UpdateRuns : Prop :=
  ∀ (b : Byte) (blanked suspended : Bool) (s : State), s.pending = [] →
    ∃ t, exec (.update b blanked suspended) s = .next t ∧
      t.finish = afterUpdate s b blanked suspended

/-- R150: `update_status` latches its three arguments, updates and returns success (D9, D10:
assumptions 22, 23). -/
def Obligations.UpdateStatusRuns : Prop :=
  ∀ (b : Byte) (blankState suspendState : Bool) (s : State), Ready s →
    ∃ t, exec (.updateStatus b blankState suspendState) s = .next t ∧
      t.finish =
        { afterUpdate { s with device := ⟨b, blankState, suspendState⟩ } b blankState suspendState with
          result := .success }

/-- R153: legal only while attached and not busy, `get_current_brightness` returns `BRT` while ON and 0
while OFF, and changes nothing else. That it is refused while busy or detached is R199 and R205, decisions
D18 and D19 (assumption 26). -/
def Obligations.GetCurrentBrightnessRuns : Prop :=
  ∀ s : State,
    (Ready s → ∃ t, exec .getCurrentBrightness s = .next t ∧
      (s.handle.power = .on → t.finish = { s with result := .brightness s.handle.brt }) ∧
      (s.handle.power = .off → t.finish = { s with result := .brightness 0#8 })) ∧
    (s.busy = true ∨ s.life = .detached → ∃ r, exec .getCurrentBrightness s = .refused r)

/-- R155 (a), (b): a brightness set without blanking is read back, whatever the power state was; after an
update that blanks or suspends, 0 is read. -/
def Obligations.BrightnessReadBack : Prop :=
  ∀ (b : Byte) (blankState suspendState : Bool) (s : State), Ready s →
    ∃ t u, exec (.updateStatus b blankState suspendState) s = .next t ∧
      exec .getCurrentBrightness t.finish = .next u ∧
      u.finish.result =
        .brightness (if blankState = false ∧ suspendState = false then b else 0#8)

/-- R155 (d) and the second half of X3: from OFF, an unblanked update makes one ON transition and then
sends the brightness once; the same update again makes no transition and sends the brightness once. -/
def Obligations.OneTransitionOneBrightness : Prop :=
  ∀ (b : Byte) (s : State), Ready s → s.handle.power = .off →
    ∃ t e e', exec (.updateStatus b false false) s = .next t ∧
      t.finish.trace = s.trace ++ e ∧ Emits (.updateStatus b false false) t.finish e' ∧
      e = powerOnEvents s.params s.handle ++ commandEvents s.params (setbrtCommand s.params b) ∧
      decodeTrace s.params e = List.map RxItem.word
        (s.handle.onSeq.flatMap wordsOf ++ [0#1 ++ s.params.brightnessOpcode, 1#1 ++ b]) ∧
      decodeTrace s.params e' =
        List.map RxItem.word [0#1 ++ s.params.brightnessOpcode, 1#1 ++ b] ∧
      (∀ v, .w .rst v ∉ e') ∧ (∀ r v, .rail r v ∉ e')

/-- R240: the minimum durations of the four cases of `update_status`, of suspend and of
get_current_brightness. (A suspend while OFF that replays the OFF steps, D6, takes as long as they do.) -/
def Obligations.OperationDurations : Prop :=
  ∀ (b : Byte) (s : State), Ready s →
    ∃ on off susp get, Emits (.updateStatus b false false) s on ∧
      Emits (.updateStatus b true false) s off ∧ Emits .suspend s susp ∧
      Emits .getCurrentBrightness s get ∧ get = [] ∧
      (s.handle.power = .on →
        durMin on = 2 * wordUs s.params ∧
        durMin off = sequenceUs s.params s.handle.offSeq ∧
        durMin susp = sequenceUs s.params s.handle.offSeq) ∧
      (s.handle.power = .off →
        durMin on = 30 + 10000 + sequenceUs s.params s.handle.onSeq + 2 * wordUs s.params ∧
        off = [] ∧
        (s.params.suspendWhenOff = .skip → susp = []) ∧
        (s.params.suspendWhenOff = .replay → durMin susp = sequenceUs s.params s.handle.offSeq))

/-! ## Lifecycle Manager -/

/-- R165: with a well-formed configuration and four claimable lines, attach completes: claims, outputs,
handle, lookups, device, the initial update, `LIFE <- ATTACHED`, success. The orders, the initial levels and
the policy are D15, D16, D17, the values at creation D25 (assumptions 24, 25, 32). That nothing but
a claim can fail is D31, which the spec says to name here, with D28 and D32 (assumption 30). -/
def Obligations.AttachRuns : Prop :=
  ∀ (cfg : AttachConfig) (on off : List Command) (s : State),
    s.life = .detached → s.busy = false → s.pending = [] →
    Chosen cfg.onOverride s.params.defaultOnSeq on →
    Chosen cfg.offOverride s.params.defaultOffSeq off →
    cfg.claimable = ⟨true, true, true, true⟩ →
    ∃ t, exec (.attach cfg) s = .next t ∧ t.finish = afterAttach s cfg on off

/-- R166: what the host and the receiver see after a successful attach: ON at brightness 255, and the
words of the ON sequence and then of SETBRT FF; with both regulators absent no rail is called. That attach
succeeds from claimable lines alone rests on D31 (assumption 30), what the receiver reads on D4 (17). -/
def Obligations.AttachedInitialState : Prop :=
  ∀ (cfg : AttachConfig) (on off : List Command) (s : State),
    s.life = .detached → s.busy = false → s.pending = [] →
    Chosen cfg.onOverride s.params.defaultOnSeq on →
    Chosen cfg.offOverride s.params.defaultOffSeq off →
    cfg.claimable = ⟨true, true, true, true⟩ →
    ∃ t u e, exec (.attach cfg) s = .next t ∧ t.finish.trace = s.trace ++ e ∧
      t.finish.life = .attached ∧ t.finish.result = .success ∧ t.finish.handle.power = .on ∧
      exec .getCurrentBrightness t.finish = .next u ∧ u.finish.result = .brightness 255#8 ∧
      decodeTrace s.params e = List.map RxItem.word
        (on.flatMap wordsOf ++ [0#1 ++ s.params.brightnessOpcode, 0x1FF#9]) ∧
      (cfg.found = ⟨false, false⟩ → ∀ x ∈ e, isRail x = false)

/-- R191, R192: when a claim fails, the claims before it are released, most recent first, the error names
the line, no line is owned and the block is as it was before, but for the trace and the result. (Claims go
in the order CS, SCL, SDA, RST, D15, assumption 24.) With the lines made outputs after each claim (D16), the
lines claimed and released take free levels (assumption 5); everything but them is as it was. That the
latch of a line never made an output keeps its level over a failed attach is assumption 31 (DEDUCED from
R192, where D22 calls the level arbitrary). -/
def Obligations.AttachRollsBack : Prop :=
  ∀ (cfg : AttachConfig) (l : Line) (s : State),
    s.life = .detached → s.busy = false → s.pending = [] → cfg.wf = true →
    (∀ m ∈ claimedBefore l, getLine cfg.claimable m = true) → getLine cfg.claimable l = false →
    s.owned = ⟨false, false, false, false⟩ → s.dirOut = ⟨false, false, false, false⟩ →
    ∃ t, exec (.attach cfg) s = .next t ∧
      (s.params.dirOutPolicy = .afterAllClaims →
        t.finish =
          { s with
            result := .resourceUnavailable l
            trace := s.trace ++ (claimedBefore l).map (fun m => .claim m true) ++
              [.claim l false] ++ (claimedBefore l).reverse.map .rel }) ∧
      (s.params.dirOutPolicy = .afterEachClaim →
        t.finish =
          { s with
            line := t.finish.line
            draws := t.finish.draws
            result := .resourceUnavailable l
            trace := s.trace ++
              (claimedBefore l).flatMap
                (fun m => [.claim m true, .dir m (initLevel s.params m)]) ++
              [.claim l false] ++ (claimedBefore l).reverse.map .rel } ∧
        ∀ m, m ∉ claimedBefore l → getLine t.finish.line m = getLine s.line m)

/-- R170: detach completes: the OFF transition if ON, the releases, and `LIFE <- DETACHED`. What the
destroyed registers hold afterwards is a free value (assumption 6), and so is the level of each line that
was an output (D22, assumption 5). -/
def Obligations.DetachRuns : Prop :=
  ∀ s : State, Ready s → ∃ t, exec .detach s = .next t ∧ t.finish = afterDetach s

/-- R173: suspend forces OFF if ON, without altering `BRT` or the requested values; while OFF it does
nothing, or replays the OFF steps if the parameter says so (D6, assumption 19). -/
def Obligations.SuspendRuns : Prop :=
  ∀ s : State, Ready s → ∃ t, exec .suspend s = .next t ∧ t.finish = afterSuspend s ∧
    t.finish.handle.brt = s.handle.brt ∧ t.finish.device = s.device

/-- R175: resume is `update` with the last known inputs. -/
def Obligations.ResumeRuns : Prop :=
  ∀ s : State, Ready s → ∃ t, exec .resume s = .next t ∧
    t.finish =
      { afterUpdate s s.device.reqBrt s.device.reqBlank s.device.reqSusp with result := .nothing }

/-- R176: suspend then resume, from ON with inputs (b, false, false), emits the OFF transition, the ON
transition and one brightness Command, and ends ON with the brightness b and the inputs unchanged. -/
def Obligations.SuspendResumeRestores : Prop :=
  ∀ (b : Byte) (s : State), Ready s → s.handle.power = .on → s.device = ⟨b, false, false⟩ →
    ∃ t u, exec .suspend s = .next t ∧ exec .resume t.finish = .next u ∧
      t.finish.handle.power = .off ∧
      u.finish.trace = s.trace ++ (powerOffEvents s.params s.handle ++
        powerOnEvents s.params s.handle ++ commandEvents s.params (setbrtCommand s.params b)) ∧
      u.finish.handle = { s.handle with brt := b } ∧ u.finish.device = s.device ∧
      u.finish.life = .attached ∧ u.finish.owned = s.owned

/-- R205, R63: which external operation is legal when. Every one is refused while `BUSY`; otherwise
attach is legal exactly while DETACHED and the others exactly while ATTACHED (D18, D19, assumption 26). -/
def Obligations.LifecycleGating : Prop :=
  ∀ (i : Instr) (s : State), i.external = true → i.wf = true →
    (s.busy = true → exec i s = .refused .busy) ∧
    (s.busy = false → ∀ cfg, i = .attach cfg →
      (s.life = .attached → exec i s = .refused .alreadyAttached) ∧
      (s.life = .detached → ∃ t, exec i s = .next t)) ∧
    (s.busy = false → (∀ cfg, i ≠ .attach cfg) →
      (s.life = .detached → exec i s = .refused .notAttached) ∧
      (s.life = .attached → ∃ t, exec i s = .next t))

/-! ## The machine -/

/-- With nothing in flight, a step takes the next request: when its fields decode to an instruction its
caller may invoke, the step is exec of that instruction on the state with the request taken off the list.
The list of requests is the model's own (assumption 12). -/
def Obligations.StepRunsTheRequest : Prop :=
  ∀ (s : State) (r : Request) (rest : List Request) (i : Instr),
    s.pending = [] → s.requests = r :: rest → decode r.format r.fields = .ok i →
    (r.caller = .host → i.external = true) → step s = exec i { s with requests := rest }

/-- The instruction placed by withFetchWord is the one the very next step runs (assumption 12). -/
def Obligations.PlacedWordRuns : Prop :=
  ∀ (s : State) (nbits w : Nat) (i : Instr), decodeTableWord nbits w = some i →
    step (s.withFetchWord nbits w) = exec i { s with pending := [] }

/-- R199 (4), R206: the host's request for an internal operation, or for a word or a Command, is refused. -/
def Obligations.HostMayNotInvokeInternal : Prop :=
  ∀ (s : State) (r : Request) (rest : List Request) (i : Instr),
    s.pending = [] → s.requests = r :: rest → decode r.format r.fields = .ok i →
    r.caller = .host → i.external = false → step s = .refused .internalOperation

/-- R36, R201, R209: an operation in flight goes on by one event or register write a step and no request
is taken meanwhile; with nothing in flight and nothing requested the block rests (assumptions 1, 13). -/
def Obligations.StepContinuesInFlight : Prop :=
  (∀ (s : State) (m : Micro) (ms : List Micro), s.pending = m :: ms →
    ∃ t, step s = .next t ∧ t.pending = ms ∧ t.requests = s.requests ∧ t.finish = s.finish ∧
      (∀ e, m = .emit e → t.trace = s.trace ++ [e]) ∧
      ((∀ e, m ≠ .emit e) → t.trace = s.trace)) ∧
  (∀ s : State, s.pending = [] → s.requests = [] → step s = .next s)

/-- With the granularity of reset, the model's choice of the two of D23 (assumption 1), an operation runs
whole in the step that takes it. -/
def Obligations.WholeOperationInOneStep : Prop :=
  ∀ (i : Instr) (s t : State), s.stepwise = false → s.pending = [] → exec i s = .next t →
    t.pending = [] ∧ t.finish = t

/-- R36, R58, R242, D23: the two granularities agree. Taken one event a step, an operation comes to its
end after as many steps as were left in flight, and there the block is in the state the whole operation
reaches in one step (assumption 1). -/
def Obligations.StepwiseReachesTheSameState : Prop :=
  ∀ (i : Instr) (s : State), s.stepwise = true → s.pending = [] →
    (∀ t, exec i s = .next t → ∃ u, Sys2Proof.core.run t.pending.length t = .next u ∧
      u.pending = [] ∧ exec i { s with stepwise := false } = .next { u with stepwise := false }) ∧
    (∀ r, exec i s = .refused r ↔ exec i { s with stepwise := false } = .refused r)

/-- R36, R63: `BUSY` is true from the acceptance of an external operation until it returns, and all that
time every external operation is refused. -/
def Obligations.BusyUntilReturn : Prop :=
  ∀ (i : Instr) (s t : State), i.external = true → s.stepwise = true → s.pending = [] →
    exec i s = .next t →
    ∀ k, k ≤ t.pending.length → ∃ u, Sys2Proof.core.run k t = .next u ∧
      (u.busy = true ↔ k < t.pending.length) ∧
      (k < t.pending.length → ∀ j : Instr, j.external = true → exec j u = .refused .busy)

/-- R51, R64, R28: while attached (attach creates them and detach destroys them) the sequence store, the
line identifiers and the presence of the rails do not change, and the parameters never do. -/
def Obligations.StoreIsReadOnly : Prop :=
  (∀ s t : State, step s = .next t → t.params = s.params) ∧
  (∀ (i : Instr) (s t : State), exec i s = .next t → s.pending = [] → s.life = .attached →
    t.finish.life = .attached →
    t.finish.handle.onSeq = s.handle.onSeq ∧ t.finish.handle.offSeq = s.handle.offSeq ∧
    t.finish.handle.lineId = s.handle.lineId ∧ t.finish.handle.present = s.handle.present)

/-- R38: "It starts empty and only grows." -/
def Obligations.TraceOnlyGrows : Prop :=
  State.reset.trace = [] ∧ ∀ s t : State, step s = .next t → ∃ e, t.trace = s.trace ++ e

/-- R32, R33: a line latch changes only by a write, an output or a release of that line, and a rail latch
only by a call on that rail. For a line the block does not own, whose level R32 and D22 call unspecified,
that the latch keeps its value between such events is the model's choice (assumptions 5 and 31), and so it
is for a rail before the block's first call on it, whose value R33 calls unspecified (assumption 8). -/
def Obligations.LatchesFollowTheTrace : Prop :=
  ∀ (i : Instr) (s t : State), exec i s = .next t → s.pending = [] →
    ∃ e, t.finish.trace = s.trace ++ e ∧
      (∀ l, getLine t.finish.line l ≠ getLine s.line l →
        (∃ v, .w l v ∈ e) ∨ (∃ v, .dir l v ∈ e) ∨ .rel l ∈ e) ∧
      (∀ r, getRail t.finish.railEn r ≠ getRail s.railEn r → ∃ v, .rail r v ∈ e)

/-- R27, R38, R39: the values the spec gives the block before the first attach, and `POWER` = OFF, which is
the model's choice there (assumption 10): R39 gives `POWER` no meaning before attach, and OFF is its reset
value at creation (R26, R28). -/
def Obligations.ResetValues : Prop :=
  State.reset.life = .detached ∧ State.reset.busy = false ∧
  (∀ l, getLine State.reset.owned l = false) ∧ State.reset.handle.power = .off ∧
  State.reset.trace = []

/-! ## Invariants -/

/-- R34, R35, R175, R205: the invariants of a quiescent block hold after every step of a host-driven run
when they hold before it. -/
def Obligations.BlockInvKept : Prop :=
  ∀ s t : State, BlockInv s → step s = .next t → BlockInv t

/-- The invariants hold at reset. -/
def Obligations.BlockInvAtReset : Prop := BlockInv State.reset

/-- R134, R205, R226, R230, R231: in a host-driven run every trace keeps the order of reset, rails (VCI
first on the way up and last on the way down), settle and words, drives only owned lines and holds between
serial writes, when SUSPEND_WHEN_OFF is skip (D6, assumption 19). -/
def Obligations.HazardInvKept : Prop :=
  ∀ s t : State, HazardInv s → step s = .next t → HazardInv t

/-- The hazard invariant holds at reset, whose SUSPEND_WHEN_OFF is skip, the default of D6 (assumption 2). -/
def Obligations.HazardInvAtReset : Prop := HazardInv State.reset

/-- R56, R106: in a host-driven run the reference receiver never sees a malformed frame, and no frame is
left open. -/
def Obligations.WholeFramesKept : Prop :=
  WholeFrames State.reset.finish ∧
  ∀ s t : State, BlockInv s → WholeFrames s.finish → step s = .next t → WholeFrames t.finish
end

