-- ==== Sys2Proof/Laws/Decode.lean ====
section
/-! SUPPORT. Small lemmas of the readers: what each answers when the fields written for a value stand at
the front of the list. -/

namespace Sys2Proof

theorem readThen_of_ok {α β : Type} {p : Reader α} {f : α → Reader β} {xs rest : List Nat} {a : α}
    (h : p xs = .ok (a, rest)) : readThen p f xs = f a rest := by simp [readThen, h]

/-- A sequence of readers answers exactly when the first does and the second does on what it left. -/
theorem readThen_eq_ok {α β : Type} {p : Reader α} {f : α → Reader β} {xs : List Nat}
    {r : β × List Nat} :
    readThen p f xs = .ok r ↔ ∃ a rest, p xs = .ok (a, rest) ∧ f a rest = .ok r := by
  unfold readThen
  cases h : p xs with
  | error e => simp
  | ok ar => obtain ⟨a, rest⟩ := ar; simp

@[simp] theorem readDone_apply {α : Type} (a : α) (xs : List Nat) : readDone a xs = .ok (a, xs) := rfl

@[simp] theorem readNat_cons (x : Nat) (xs : List Nat) : readNat (x :: xs) = .ok (x, xs) := rfl

theorem readBits_toNat {n : Nat} (v : BitVec n) (xs : List Nat) :
    readBits n (v.toNat :: xs) = .ok (v, xs) := by
  simp [readBits, readThen, readNat, v.isLt]

theorem readFlag_flagField (b : Bool) (xs : List Nat) :
    readFlag (flagField b :: xs) = .ok (b, xs) := by cases b <;> rfl

theorem readMany_map {α : Type} {p : Reader α} {w : α → List Nat}
    (as : List α) (h : ∀ a ∈ as, ∀ xs, p (w a ++ xs) = .ok (a, xs)) (xs : List Nat) :
    readMany p as.length (as.flatMap w ++ xs) = .ok (as, xs) := by
  induction as generalizing xs with
  | nil => rfl
  | cons a as ih =>
    have h1 : p ((a :: as).flatMap w ++ xs) = .ok (a, as.flatMap w ++ xs) := by
      simpa [List.append_assoc] using h a (by simp) (as.flatMap w ++ xs)
    have h2 := ih (fun b hb => h b (by simp [hb])) xs
    simp only [List.length_cons, readMany]
    rw [readThen_of_ok h1, readThen_of_ok h2]
    rfl

end Sys2Proof
end

