-- ==== Sys2Proof/Laws/Operands.lean ====
section
/-! SUPPORT. Small lemmas of the operand forms, the flags and the plans of the operations. -/

namespace Sys2Proof.Machine

@[simp] theorem getLine_setLine_same {α : Type} (x : Lines α) (l : Line) (v : α) :
    getLine (setLine x l v) l = v := by cases l <;> rfl

@[simp] theorem getLine_setLine_ne {α : Type} (x : Lines α) {l m : Line} (v : α) (h : m ≠ l) :
    getLine (setLine x l v) m = getLine x m := by cases l <;> cases m <;> first | rfl | exact absurd rfl h

@[simp] theorem setLine_setLine_same {α : Type} (x : Lines α) (l : Line) (u v : α) :
    setLine (setLine x l u) l v = setLine x l v := by cases l <;> rfl

@[simp] theorem getRail_setRail_same {α : Type} (x : Rails α) (r : Rail) (v : α) :
    getRail (setRail x r v) r = v := by cases r <;> rfl

@[simp] theorem getRail_setRail_ne {α : Type} (x : Rails α) {r q : Rail} (v : α) (h : q ≠ r) :
    getRail (setRail x r v) q = getRail x q := by cases r <;> cases q <;> first | rfl | exact absurd rfl h

theorem lines_ext {α : Type} {x y : Lines α} (h : ∀ l, getLine x l = getLine y l) : x = y := by
  cases x; cases y
  have h1 := h .cs; have h2 := h .scl; have h3 := h .sda; have h4 := h .rst
  simp only [getLine] at h1 h2 h3 h4
  rw [h1, h2, h3, h4]

/-- A record that passes the check is the Command it becomes. -/
theorem checkCommand_of_wf {c : CommandRec} (h : c.wf = true) : checkCommand c = some ⟨c, h⟩ := by
  simp [checkCommand, h]

theorem checkCommand_of_not_wf {c : CommandRec} (h : c.wf = false) : checkCommand c = none := by
  simp [checkCommand, h]

theorem checkCommand_val (c : Command) : checkCommand c.1 = some c := checkCommand_of_wf c.2

/-- A sequence is checked exactly when it is well formed, and the check changes no record. -/
theorem checkSequence_eq_some {s : List CommandRec} {t : List Command} :
    checkSequence s = some t ↔ s = t.map Subtype.val := by
  induction s generalizing t with
  | nil => cases t <;> simp [checkSequence]
  | cons c cs ih =>
    cases hc : c.wf with
    | false =>
      simp only [checkSequence, checkCommand_of_not_wf hc]
      refine ⟨fun h => by simp at h, fun h => ?_⟩
      cases t with
      | nil => simp at h
      | cons a as =>
        simp only [List.map_cons, List.cons.injEq] at h
        have := a.2; rw [← h.1, hc] at this; simp at this
    | true =>
      simp only [checkSequence, checkCommand_of_wf hc]
      cases hs : checkSequence cs with
      | none =>
        refine ⟨fun h => by simp at h, fun h => ?_⟩
        cases t with
        | nil => simp at h
        | cons a as =>
          simp only [List.map_cons, List.cons.injEq] at h
          have := ih.mpr h.2; simp [hs] at this
      | some u =>
        have hu := ih.mp hs
        cases t with
        | nil => simp
        | cons a as =>
          simp only [Option.some.injEq, List.cons.injEq, List.map_cons]
          constructor
          · rintro ⟨rfl, rfl⟩; exact ⟨rfl, hu⟩
          · rintro ⟨h1, h2⟩
            refine ⟨Subtype.ext h1, ?_⟩
            have := ih.mpr h2; rw [hs] at this; exact Option.some.inj this

theorem sentParams_length (c : Command) : (sentParams c).length = c.1.parameterCount := by
  have h := c.2
  simp only [CommandRec.wf, Bool.and_eq_true, decide_eq_true_eq] at h
  simp [sentParams, h.2]

theorem count_le (c : Command) : c.1.parameterCount ≤ 15 := by
  have h := c.2
  simp only [CommandRec.wf, Bool.and_eq_true, decide_eq_true_eq] at h
  exact h.1

/-- A slot below the number of bytes given holds the byte given; the others are as before (R20, R21). -/
theorem loadSlots_get (ps : List Byte) (old : Vector Byte 15) (k : Nat) (h : k < 15) :
    (loadSlots ps old)[k] = (ps[k]?).getD old[k] := by
  have hl : k < ((ps ++ old.toList.drop ps.length).take 15).length := by simp; omega
  show (((ps ++ old.toList.drop ps.length).take 15).toArray)[k]'(by simpa using hl) = _
  rw [List.getElem_toArray, List.getElem_take]
  by_cases hk : k < ps.length
  · rw [List.getElem_append_left hk]; simp [hk]
  · rw [List.getElem_append_right (by omega)]
    have : ps.length + (k - ps.length) = k := by omega
    simp [List.getElem?_eq_none (Nat.le_of_not_lt hk), this]

@[simp] theorem powerOf_true : powerOf true = .on := rfl
@[simp] theorem powerOf_false : powerOf false = .off := rfl

theorem shouldBeOn_eq_on {bl su : Bool} : shouldBeOn bl su = .on ↔ bl = false ∧ su = false := by
  cases bl <;> cases su <;> simp [shouldBeOn, powerOf]

theorem shouldBeOn_eq_off {bl su : Bool} : shouldBeOn bl su = .off ↔ bl = true ∨ su = true := by
  cases bl <;> cases su <;> simp [shouldBeOn, powerOf]

/-- The fetch loop of PLAY over a list of entries (R65, R120). -/
theorem playFrom_eq (p : Params) (h : PanelHandle) (sid : SeqId) (pre cs : List Command)
    (hs : activeSeq h sid = pre ++ cs) :
    playFrom p h sid cs.length pre.length =
      (cs.zipIdx pre.length).flatMap fun ck => sendSteps p ck.1 ++ [.setSp ⟨sid, ck.2 + 1⟩] := by
  induction cs generalizing pre with
  | nil => rfl
  | cons c cs ih =>
    have hf : memRead h ⟨sid, pre.length⟩ = some c := by simp [memRead, hs]
    have := ih (pre ++ [c]) (by simp [hs])
    simp only [List.length_append, List.length_singleton] at this
    simp [playFrom, hf, this, List.zipIdx_cons]

/-- PLAY sets `SP` to entry 0 and sends every entry, each followed by the advance of `SP` (R25, R120). -/
theorem playSteps_eq (p : Params) (h : PanelHandle) (sid : SeqId) :
    playSteps p h sid = .setSp ⟨sid, 0⟩ ::
      (activeSeq h sid).zipIdx.flatMap fun ck => sendSteps p ck.1 ++ [.setSp ⟨sid, ck.2 + 1⟩] := by
  rw [playSteps, show (0 : Nat) = ([] : List Command).length from rfl,
    playFrom_eq p h sid [] (activeSeq h sid) rfl]

/-- PLAY depends on the Panel Handle only through the sequence it plays. -/
theorem playSteps_congr {p : Params} {h h' : PanelHandle} {sid : SeqId}
    (hs : activeSeq h sid = activeSeq h' sid) : playSteps p h sid = playSteps p h' sid := by
  rw [playSteps_eq, playSteps_eq, hs]

/-- The transition to ON depends on the presence of the rails and the ON sequence alone. -/
theorem powerOnSteps_congr {p : Params} {h h' : PanelHandle} (hp : h.present = h'.present)
    (hs : h.onSeq = h'.onSeq) : powerOnSteps p h = powerOnSteps p h' := by
  have hq : playSteps p h .onSeq = playSteps p h' .onSeq := playSteps_congr hs
  simp only [powerOnSteps, railSteps, hp, hq]

/-- The transition to OFF depends on the presence of the rails and the OFF sequence alone. -/
theorem powerOffSteps_congr {p : Params} {h h' : PanelHandle} (hp : h.present = h'.present)
    (hs : h.offSeq = h'.offSeq) : powerOffSteps p h = powerOffSteps p h' := by
  have hq : playSteps p h .offSeq = playSteps p h' .offSeq := playSteps_congr hs
  simp only [powerOffSteps, railSteps, hp, hq]

end Sys2Proof.Machine
end

