-- ==== Sys2Proof/Laws/State.lean ====
section
/-! SUPPORT. One lemma per field of State per update of it, each true by unfolding the update once. -/

namespace Sys2Proof.Machine

/-! ### Register writes of the control state -/

@[simp] theorem perform_setShr_params (w : Word9) (s : State) :
    (Micro.perform (.setShr w) s).params = s.params := rfl
@[simp] theorem perform_setShr_life (w : Word9) (s : State) :
    (Micro.perform (.setShr w) s).life = s.life := rfl
@[simp] theorem perform_setShr_busy (w : Word9) (s : State) :
    (Micro.perform (.setShr w) s).busy = s.busy := rfl
@[simp] theorem perform_setShr_owned (w : Word9) (s : State) :
    (Micro.perform (.setShr w) s).owned = s.owned := rfl
@[simp] theorem perform_setShr_dirOut (w : Word9) (s : State) :
    (Micro.perform (.setShr w) s).dirOut = s.dirOut := rfl
@[simp] theorem perform_setShr_line (w : Word9) (s : State) :
    (Micro.perform (.setShr w) s).line = s.line := rfl
@[simp] theorem perform_setShr_railEn (w : Word9) (s : State) :
    (Micro.perform (.setShr w) s).railEn = s.railEn := rfl
@[simp] theorem perform_setShr_handle (w : Word9) (s : State) :
    (Micro.perform (.setShr w) s).handle = s.handle := rfl
@[simp] theorem perform_setShr_device (w : Word9) (s : State) :
    (Micro.perform (.setShr w) s).device = s.device := rfl
@[simp] theorem perform_setShr_work (w : Word9) (s : State) :
    (Micro.perform (.setShr w) s).work = { s.work with shr := w } := rfl
@[simp] theorem perform_setShr_trace (w : Word9) (s : State) :
    (Micro.perform (.setShr w) s).trace = s.trace := rfl
@[simp] theorem perform_setShr_pending (w : Word9) (s : State) :
    (Micro.perform (.setShr w) s).pending = s.pending := rfl
@[simp] theorem perform_setShr_stepwise (w : Word9) (s : State) :
    (Micro.perform (.setShr w) s).stepwise = s.stepwise := rfl
@[simp] theorem perform_setShr_requests (w : Word9) (s : State) :
    (Micro.perform (.setShr w) s).requests = s.requests := rfl
@[simp] theorem perform_setShr_result (w : Word9) (s : State) :
    (Micro.perform (.setShr w) s).result = s.result := rfl
@[simp] theorem perform_setShr_draws (w : Word9) (s : State) :
    (Micro.perform (.setShr w) s).draws = s.draws := rfl

@[simp] theorem perform_setBitIdx_params (i : BitVec 4) (s : State) :
    (Micro.perform (.setBitIdx i) s).params = s.params := rfl
@[simp] theorem perform_setBitIdx_life (i : BitVec 4) (s : State) :
    (Micro.perform (.setBitIdx i) s).life = s.life := rfl
@[simp] theorem perform_setBitIdx_busy (i : BitVec 4) (s : State) :
    (Micro.perform (.setBitIdx i) s).busy = s.busy := rfl
@[simp] theorem perform_setBitIdx_owned (i : BitVec 4) (s : State) :
    (Micro.perform (.setBitIdx i) s).owned = s.owned := rfl
@[simp] theorem perform_setBitIdx_dirOut (i : BitVec 4) (s : State) :
    (Micro.perform (.setBitIdx i) s).dirOut = s.dirOut := rfl
@[simp] theorem perform_setBitIdx_line (i : BitVec 4) (s : State) :
    (Micro.perform (.setBitIdx i) s).line = s.line := rfl
@[simp] theorem perform_setBitIdx_railEn (i : BitVec 4) (s : State) :
    (Micro.perform (.setBitIdx i) s).railEn = s.railEn := rfl
@[simp] theorem perform_setBitIdx_handle (i : BitVec 4) (s : State) :
    (Micro.perform (.setBitIdx i) s).handle = s.handle := rfl
@[simp] theorem perform_setBitIdx_device (i : BitVec 4) (s : State) :
    (Micro.perform (.setBitIdx i) s).device = s.device := rfl
@[simp] theorem perform_setBitIdx_work (i : BitVec 4) (s : State) :
    (Micro.perform (.setBitIdx i) s).work = { s.work with bitIdx := i } := rfl
@[simp] theorem perform_setBitIdx_trace (i : BitVec 4) (s : State) :
    (Micro.perform (.setBitIdx i) s).trace = s.trace := rfl
@[simp] theorem perform_setBitIdx_pending (i : BitVec 4) (s : State) :
    (Micro.perform (.setBitIdx i) s).pending = s.pending := rfl
@[simp] theorem perform_setBitIdx_stepwise (i : BitVec 4) (s : State) :
    (Micro.perform (.setBitIdx i) s).stepwise = s.stepwise := rfl
@[simp] theorem perform_setBitIdx_requests (i : BitVec 4) (s : State) :
    (Micro.perform (.setBitIdx i) s).requests = s.requests := rfl
@[simp] theorem perform_setBitIdx_result (i : BitVec 4) (s : State) :
    (Micro.perform (.setBitIdx i) s).result = s.result := rfl
@[simp] theorem perform_setBitIdx_draws (i : BitVec 4) (s : State) :
    (Micro.perform (.setBitIdx i) s).draws = s.draws := rfl

@[simp] theorem perform_loadCb_params (c : Command) (s : State) :
    (Micro.perform (.loadCb c) s).params = s.params := rfl
@[simp] theorem perform_loadCb_life (c : Command) (s : State) :
    (Micro.perform (.loadCb c) s).life = s.life := rfl
@[simp] theorem perform_loadCb_busy (c : Command) (s : State) :
    (Micro.perform (.loadCb c) s).busy = s.busy := rfl
@[simp] theorem perform_loadCb_owned (c : Command) (s : State) :
    (Micro.perform (.loadCb c) s).owned = s.owned := rfl
@[simp] theorem perform_loadCb_dirOut (c : Command) (s : State) :
    (Micro.perform (.loadCb c) s).dirOut = s.dirOut := rfl
@[simp] theorem perform_loadCb_line (c : Command) (s : State) :
    (Micro.perform (.loadCb c) s).line = s.line := rfl
@[simp] theorem perform_loadCb_railEn (c : Command) (s : State) :
    (Micro.perform (.loadCb c) s).railEn = s.railEn := rfl
@[simp] theorem perform_loadCb_handle (c : Command) (s : State) :
    (Micro.perform (.loadCb c) s).handle = s.handle := rfl
@[simp] theorem perform_loadCb_device (c : Command) (s : State) :
    (Micro.perform (.loadCb c) s).device = s.device := rfl
@[simp] theorem perform_loadCb_work (c : Command) (s : State) :
    (Micro.perform (.loadCb c) s).work = { s.work with cb := loadBuffer s.work.cb c } := rfl
@[simp] theorem perform_loadCb_trace (c : Command) (s : State) :
    (Micro.perform (.loadCb c) s).trace = s.trace := rfl
@[simp] theorem perform_loadCb_pending (c : Command) (s : State) :
    (Micro.perform (.loadCb c) s).pending = s.pending := rfl
@[simp] theorem perform_loadCb_stepwise (c : Command) (s : State) :
    (Micro.perform (.loadCb c) s).stepwise = s.stepwise := rfl
@[simp] theorem perform_loadCb_requests (c : Command) (s : State) :
    (Micro.perform (.loadCb c) s).requests = s.requests := rfl
@[simp] theorem perform_loadCb_result (c : Command) (s : State) :
    (Micro.perform (.loadCb c) s).result = s.result := rfl
@[simp] theorem perform_loadCb_draws (c : Command) (s : State) :
    (Micro.perform (.loadCb c) s).draws = s.draws := rfl

@[simp] theorem perform_setWIdx_params (i : BitVec 5) (s : State) :
    (Micro.perform (.setWIdx i) s).params = s.params := rfl
@[simp] theorem perform_setWIdx_life (i : BitVec 5) (s : State) :
    (Micro.perform (.setWIdx i) s).life = s.life := rfl
@[simp] theorem perform_setWIdx_busy (i : BitVec 5) (s : State) :
    (Micro.perform (.setWIdx i) s).busy = s.busy := rfl
@[simp] theorem perform_setWIdx_owned (i : BitVec 5) (s : State) :
    (Micro.perform (.setWIdx i) s).owned = s.owned := rfl
@[simp] theorem perform_setWIdx_dirOut (i : BitVec 5) (s : State) :
    (Micro.perform (.setWIdx i) s).dirOut = s.dirOut := rfl
@[simp] theorem perform_setWIdx_line (i : BitVec 5) (s : State) :
    (Micro.perform (.setWIdx i) s).line = s.line := rfl
@[simp] theorem perform_setWIdx_railEn (i : BitVec 5) (s : State) :
    (Micro.perform (.setWIdx i) s).railEn = s.railEn := rfl
@[simp] theorem perform_setWIdx_handle (i : BitVec 5) (s : State) :
    (Micro.perform (.setWIdx i) s).handle = s.handle := rfl
@[simp] theorem perform_setWIdx_device (i : BitVec 5) (s : State) :
    (Micro.perform (.setWIdx i) s).device = s.device := rfl
@[simp] theorem perform_setWIdx_work (i : BitVec 5) (s : State) :
    (Micro.perform (.setWIdx i) s).work = { s.work with wIdx := i } := rfl
@[simp] theorem perform_setWIdx_trace (i : BitVec 5) (s : State) :
    (Micro.perform (.setWIdx i) s).trace = s.trace := rfl
@[simp] theorem perform_setWIdx_pending (i : BitVec 5) (s : State) :
    (Micro.perform (.setWIdx i) s).pending = s.pending := rfl
@[simp] theorem perform_setWIdx_stepwise (i : BitVec 5) (s : State) :
    (Micro.perform (.setWIdx i) s).stepwise = s.stepwise := rfl
@[simp] theorem perform_setWIdx_requests (i : BitVec 5) (s : State) :
    (Micro.perform (.setWIdx i) s).requests = s.requests := rfl
@[simp] theorem perform_setWIdx_result (i : BitVec 5) (s : State) :
    (Micro.perform (.setWIdx i) s).result = s.result := rfl
@[simp] theorem perform_setWIdx_draws (i : BitVec 5) (s : State) :
    (Micro.perform (.setWIdx i) s).draws = s.draws := rfl

@[simp] theorem perform_setSp_params (p : SeqPos) (s : State) :
    (Micro.perform (.setSp p) s).params = s.params := rfl
@[simp] theorem perform_setSp_life (p : SeqPos) (s : State) :
    (Micro.perform (.setSp p) s).life = s.life := rfl
@[simp] theorem perform_setSp_busy (p : SeqPos) (s : State) :
    (Micro.perform (.setSp p) s).busy = s.busy := rfl
@[simp] theorem perform_setSp_owned (p : SeqPos) (s : State) :
    (Micro.perform (.setSp p) s).owned = s.owned := rfl
@[simp] theorem perform_setSp_dirOut (p : SeqPos) (s : State) :
    (Micro.perform (.setSp p) s).dirOut = s.dirOut := rfl
@[simp] theorem perform_setSp_line (p : SeqPos) (s : State) :
    (Micro.perform (.setSp p) s).line = s.line := rfl
@[simp] theorem perform_setSp_railEn (p : SeqPos) (s : State) :
    (Micro.perform (.setSp p) s).railEn = s.railEn := rfl
@[simp] theorem perform_setSp_handle (p : SeqPos) (s : State) :
    (Micro.perform (.setSp p) s).handle = s.handle := rfl
@[simp] theorem perform_setSp_device (p : SeqPos) (s : State) :
    (Micro.perform (.setSp p) s).device = s.device := rfl
@[simp] theorem perform_setSp_work (p : SeqPos) (s : State) :
    (Micro.perform (.setSp p) s).work = { s.work with sp := p } := rfl
@[simp] theorem perform_setSp_trace (p : SeqPos) (s : State) :
    (Micro.perform (.setSp p) s).trace = s.trace := rfl
@[simp] theorem perform_setSp_pending (p : SeqPos) (s : State) :
    (Micro.perform (.setSp p) s).pending = s.pending := rfl
@[simp] theorem perform_setSp_stepwise (p : SeqPos) (s : State) :
    (Micro.perform (.setSp p) s).stepwise = s.stepwise := rfl
@[simp] theorem perform_setSp_requests (p : SeqPos) (s : State) :
    (Micro.perform (.setSp p) s).requests = s.requests := rfl
@[simp] theorem perform_setSp_result (p : SeqPos) (s : State) :
    (Micro.perform (.setSp p) s).result = s.result := rfl
@[simp] theorem perform_setSp_draws (p : SeqPos) (s : State) :
    (Micro.perform (.setSp p) s).draws = s.draws := rfl

@[simp] theorem perform_setPower_params (p : Power) (s : State) :
    (Micro.perform (.setPower p) s).params = s.params := rfl
@[simp] theorem perform_setPower_life (p : Power) (s : State) :
    (Micro.perform (.setPower p) s).life = s.life := rfl
@[simp] theorem perform_setPower_busy (p : Power) (s : State) :
    (Micro.perform (.setPower p) s).busy = s.busy := rfl
@[simp] theorem perform_setPower_owned (p : Power) (s : State) :
    (Micro.perform (.setPower p) s).owned = s.owned := rfl
@[simp] theorem perform_setPower_dirOut (p : Power) (s : State) :
    (Micro.perform (.setPower p) s).dirOut = s.dirOut := rfl
@[simp] theorem perform_setPower_line (p : Power) (s : State) :
    (Micro.perform (.setPower p) s).line = s.line := rfl
@[simp] theorem perform_setPower_railEn (p : Power) (s : State) :
    (Micro.perform (.setPower p) s).railEn = s.railEn := rfl
@[simp] theorem perform_setPower_handle (p : Power) (s : State) :
    (Micro.perform (.setPower p) s).handle = { s.handle with power := p } := rfl
@[simp] theorem perform_setPower_device (p : Power) (s : State) :
    (Micro.perform (.setPower p) s).device = s.device := rfl
@[simp] theorem perform_setPower_work (p : Power) (s : State) :
    (Micro.perform (.setPower p) s).work = s.work := rfl
@[simp] theorem perform_setPower_trace (p : Power) (s : State) :
    (Micro.perform (.setPower p) s).trace = s.trace := rfl
@[simp] theorem perform_setPower_pending (p : Power) (s : State) :
    (Micro.perform (.setPower p) s).pending = s.pending := rfl
@[simp] theorem perform_setPower_stepwise (p : Power) (s : State) :
    (Micro.perform (.setPower p) s).stepwise = s.stepwise := rfl
@[simp] theorem perform_setPower_requests (p : Power) (s : State) :
    (Micro.perform (.setPower p) s).requests = s.requests := rfl
@[simp] theorem perform_setPower_result (p : Power) (s : State) :
    (Micro.perform (.setPower p) s).result = s.result := rfl
@[simp] theorem perform_setPower_draws (p : Power) (s : State) :
    (Micro.perform (.setPower p) s).draws = s.draws := rfl

@[simp] theorem perform_setBrt_params (b : Byte) (s : State) :
    (Micro.perform (.setBrt b) s).params = s.params := rfl
@[simp] theorem perform_setBrt_life (b : Byte) (s : State) :
    (Micro.perform (.setBrt b) s).life = s.life := rfl
@[simp] theorem perform_setBrt_busy (b : Byte) (s : State) :
    (Micro.perform (.setBrt b) s).busy = s.busy := rfl
@[simp] theorem perform_setBrt_owned (b : Byte) (s : State) :
    (Micro.perform (.setBrt b) s).owned = s.owned := rfl
@[simp] theorem perform_setBrt_dirOut (b : Byte) (s : State) :
    (Micro.perform (.setBrt b) s).dirOut = s.dirOut := rfl
@[simp] theorem perform_setBrt_line (b : Byte) (s : State) :
    (Micro.perform (.setBrt b) s).line = s.line := rfl
@[simp] theorem perform_setBrt_railEn (b : Byte) (s : State) :
    (Micro.perform (.setBrt b) s).railEn = s.railEn := rfl
@[simp] theorem perform_setBrt_handle (b : Byte) (s : State) :
    (Micro.perform (.setBrt b) s).handle = { s.handle with brt := b } := rfl
@[simp] theorem perform_setBrt_device (b : Byte) (s : State) :
    (Micro.perform (.setBrt b) s).device = s.device := rfl
@[simp] theorem perform_setBrt_work (b : Byte) (s : State) :
    (Micro.perform (.setBrt b) s).work = s.work := rfl
@[simp] theorem perform_setBrt_trace (b : Byte) (s : State) :
    (Micro.perform (.setBrt b) s).trace = s.trace := rfl
@[simp] theorem perform_setBrt_pending (b : Byte) (s : State) :
    (Micro.perform (.setBrt b) s).pending = s.pending := rfl
@[simp] theorem perform_setBrt_stepwise (b : Byte) (s : State) :
    (Micro.perform (.setBrt b) s).stepwise = s.stepwise := rfl
@[simp] theorem perform_setBrt_requests (b : Byte) (s : State) :
    (Micro.perform (.setBrt b) s).requests = s.requests := rfl
@[simp] theorem perform_setBrt_result (b : Byte) (s : State) :
    (Micro.perform (.setBrt b) s).result = s.result := rfl
@[simp] theorem perform_setBrt_draws (b : Byte) (s : State) :
    (Micro.perform (.setBrt b) s).draws = s.draws := rfl

@[simp] theorem perform_setReq_params (d : BrightnessDevice) (s : State) :
    (Micro.perform (.setReq d) s).params = s.params := rfl
@[simp] theorem perform_setReq_life (d : BrightnessDevice) (s : State) :
    (Micro.perform (.setReq d) s).life = s.life := rfl
@[simp] theorem perform_setReq_busy (d : BrightnessDevice) (s : State) :
    (Micro.perform (.setReq d) s).busy = s.busy := rfl
@[simp] theorem perform_setReq_owned (d : BrightnessDevice) (s : State) :
    (Micro.perform (.setReq d) s).owned = s.owned := rfl
@[simp] theorem perform_setReq_dirOut (d : BrightnessDevice) (s : State) :
    (Micro.perform (.setReq d) s).dirOut = s.dirOut := rfl
@[simp] theorem perform_setReq_line (d : BrightnessDevice) (s : State) :
    (Micro.perform (.setReq d) s).line = s.line := rfl
@[simp] theorem perform_setReq_railEn (d : BrightnessDevice) (s : State) :
    (Micro.perform (.setReq d) s).railEn = s.railEn := rfl
@[simp] theorem perform_setReq_handle (d : BrightnessDevice) (s : State) :
    (Micro.perform (.setReq d) s).handle = s.handle := rfl
@[simp] theorem perform_setReq_device (d : BrightnessDevice) (s : State) :
    (Micro.perform (.setReq d) s).device = d := rfl
@[simp] theorem perform_setReq_work (d : BrightnessDevice) (s : State) :
    (Micro.perform (.setReq d) s).work = s.work := rfl
@[simp] theorem perform_setReq_trace (d : BrightnessDevice) (s : State) :
    (Micro.perform (.setReq d) s).trace = s.trace := rfl
@[simp] theorem perform_setReq_pending (d : BrightnessDevice) (s : State) :
    (Micro.perform (.setReq d) s).pending = s.pending := rfl
@[simp] theorem perform_setReq_stepwise (d : BrightnessDevice) (s : State) :
    (Micro.perform (.setReq d) s).stepwise = s.stepwise := rfl
@[simp] theorem perform_setReq_requests (d : BrightnessDevice) (s : State) :
    (Micro.perform (.setReq d) s).requests = s.requests := rfl
@[simp] theorem perform_setReq_result (d : BrightnessDevice) (s : State) :
    (Micro.perform (.setReq d) s).result = s.result := rfl
@[simp] theorem perform_setReq_draws (d : BrightnessDevice) (s : State) :
    (Micro.perform (.setReq d) s).draws = s.draws := rfl

@[simp] theorem perform_createHandle_params (h : PanelHandle) (s : State) :
    (Micro.perform (.createHandle h) s).params = s.params := rfl
@[simp] theorem perform_createHandle_life (h : PanelHandle) (s : State) :
    (Micro.perform (.createHandle h) s).life = s.life := rfl
@[simp] theorem perform_createHandle_busy (h : PanelHandle) (s : State) :
    (Micro.perform (.createHandle h) s).busy = s.busy := rfl
@[simp] theorem perform_createHandle_owned (h : PanelHandle) (s : State) :
    (Micro.perform (.createHandle h) s).owned = s.owned := rfl
@[simp] theorem perform_createHandle_dirOut (h : PanelHandle) (s : State) :
    (Micro.perform (.createHandle h) s).dirOut = s.dirOut := rfl
@[simp] theorem perform_createHandle_line (h : PanelHandle) (s : State) :
    (Micro.perform (.createHandle h) s).line = s.line := rfl
@[simp] theorem perform_createHandle_railEn (h : PanelHandle) (s : State) :
    (Micro.perform (.createHandle h) s).railEn = s.railEn := rfl
@[simp] theorem perform_createHandle_handle (h : PanelHandle) (s : State) :
    (Micro.perform (.createHandle h) s).handle = h := rfl
@[simp] theorem perform_createHandle_device (h : PanelHandle) (s : State) :
    (Micro.perform (.createHandle h) s).device = s.device := rfl
@[simp] theorem perform_createHandle_work (h : PanelHandle) (s : State) :
    (Micro.perform (.createHandle h) s).work = s.work := rfl
@[simp] theorem perform_createHandle_trace (h : PanelHandle) (s : State) :
    (Micro.perform (.createHandle h) s).trace = s.trace := rfl
@[simp] theorem perform_createHandle_pending (h : PanelHandle) (s : State) :
    (Micro.perform (.createHandle h) s).pending = s.pending := rfl
@[simp] theorem perform_createHandle_stepwise (h : PanelHandle) (s : State) :
    (Micro.perform (.createHandle h) s).stepwise = s.stepwise := rfl
@[simp] theorem perform_createHandle_requests (h : PanelHandle) (s : State) :
    (Micro.perform (.createHandle h) s).requests = s.requests := rfl
@[simp] theorem perform_createHandle_result (h : PanelHandle) (s : State) :
    (Micro.perform (.createHandle h) s).result = s.result := rfl
@[simp] theorem perform_createHandle_draws (h : PanelHandle) (s : State) :
    (Micro.perform (.createHandle h) s).draws = s.draws := rfl

@[simp] theorem perform_destroy_params (s : State) :
    (Micro.perform (.destroy) s).params = s.params := rfl
@[simp] theorem perform_destroy_life (s : State) :
    (Micro.perform (.destroy) s).life = s.life := rfl
@[simp] theorem perform_destroy_busy (s : State) :
    (Micro.perform (.destroy) s).busy = s.busy := rfl
@[simp] theorem perform_destroy_owned (s : State) :
    (Micro.perform (.destroy) s).owned = s.owned := rfl
@[simp] theorem perform_destroy_dirOut (s : State) :
    (Micro.perform (.destroy) s).dirOut = s.dirOut := rfl
@[simp] theorem perform_destroy_line (s : State) :
    (Micro.perform (.destroy) s).line = s.line := rfl
@[simp] theorem perform_destroy_railEn (s : State) :
    (Micro.perform (.destroy) s).railEn = s.railEn := rfl
@[simp] theorem perform_destroy_handle (s : State) :
    (Micro.perform (.destroy) s).handle = Config.freeHandle s.draws := rfl
@[simp] theorem perform_destroy_device (s : State) :
    (Micro.perform (.destroy) s).device = Config.freeDevice s.draws := rfl
@[simp] theorem perform_destroy_work (s : State) :
    (Micro.perform (.destroy) s).work = Config.freeWork s.draws := rfl
@[simp] theorem perform_destroy_trace (s : State) :
    (Micro.perform (.destroy) s).trace = s.trace := rfl
@[simp] theorem perform_destroy_pending (s : State) :
    (Micro.perform (.destroy) s).pending = s.pending := rfl
@[simp] theorem perform_destroy_stepwise (s : State) :
    (Micro.perform (.destroy) s).stepwise = s.stepwise := rfl
@[simp] theorem perform_destroy_requests (s : State) :
    (Micro.perform (.destroy) s).requests = s.requests := rfl
@[simp] theorem perform_destroy_result (s : State) :
    (Micro.perform (.destroy) s).result = s.result := rfl
@[simp] theorem perform_destroy_draws (s : State) :
    (Micro.perform (.destroy) s).draws = s.draws + 1 := rfl

@[simp] theorem perform_setLife_params (l : Life) (s : State) :
    (Micro.perform (.setLife l) s).params = s.params := rfl
@[simp] theorem perform_setLife_life (l : Life) (s : State) :
    (Micro.perform (.setLife l) s).life = l := rfl
@[simp] theorem perform_setLife_busy (l : Life) (s : State) :
    (Micro.perform (.setLife l) s).busy = s.busy := rfl
@[simp] theorem perform_setLife_owned (l : Life) (s : State) :
    (Micro.perform (.setLife l) s).owned = s.owned := rfl
@[simp] theorem perform_setLife_dirOut (l : Life) (s : State) :
    (Micro.perform (.setLife l) s).dirOut = s.dirOut := rfl
@[simp] theorem perform_setLife_line (l : Life) (s : State) :
    (Micro.perform (.setLife l) s).line = s.line := rfl
@[simp] theorem perform_setLife_railEn (l : Life) (s : State) :
    (Micro.perform (.setLife l) s).railEn = s.railEn := rfl
@[simp] theorem perform_setLife_handle (l : Life) (s : State) :
    (Micro.perform (.setLife l) s).handle = s.handle := rfl
@[simp] theorem perform_setLife_device (l : Life) (s : State) :
    (Micro.perform (.setLife l) s).device = s.device := rfl
@[simp] theorem perform_setLife_work (l : Life) (s : State) :
    (Micro.perform (.setLife l) s).work = s.work := rfl
@[simp] theorem perform_setLife_trace (l : Life) (s : State) :
    (Micro.perform (.setLife l) s).trace = s.trace := rfl
@[simp] theorem perform_setLife_pending (l : Life) (s : State) :
    (Micro.perform (.setLife l) s).pending = s.pending := rfl
@[simp] theorem perform_setLife_stepwise (l : Life) (s : State) :
    (Micro.perform (.setLife l) s).stepwise = s.stepwise := rfl
@[simp] theorem perform_setLife_requests (l : Life) (s : State) :
    (Micro.perform (.setLife l) s).requests = s.requests := rfl
@[simp] theorem perform_setLife_result (l : Life) (s : State) :
    (Micro.perform (.setLife l) s).result = s.result := rfl
@[simp] theorem perform_setLife_draws (l : Life) (s : State) :
    (Micro.perform (.setLife l) s).draws = s.draws := rfl

@[simp] theorem perform_ret_params (r : Result) (s : State) :
    (Micro.perform (.ret r) s).params = s.params := rfl
@[simp] theorem perform_ret_life (r : Result) (s : State) :
    (Micro.perform (.ret r) s).life = s.life := rfl
@[simp] theorem perform_ret_busy (r : Result) (s : State) :
    (Micro.perform (.ret r) s).busy = false := rfl
@[simp] theorem perform_ret_owned (r : Result) (s : State) :
    (Micro.perform (.ret r) s).owned = s.owned := rfl
@[simp] theorem perform_ret_dirOut (r : Result) (s : State) :
    (Micro.perform (.ret r) s).dirOut = s.dirOut := rfl
@[simp] theorem perform_ret_line (r : Result) (s : State) :
    (Micro.perform (.ret r) s).line = s.line := rfl
@[simp] theorem perform_ret_railEn (r : Result) (s : State) :
    (Micro.perform (.ret r) s).railEn = s.railEn := rfl
@[simp] theorem perform_ret_handle (r : Result) (s : State) :
    (Micro.perform (.ret r) s).handle = s.handle := rfl
@[simp] theorem perform_ret_device (r : Result) (s : State) :
    (Micro.perform (.ret r) s).device = s.device := rfl
@[simp] theorem perform_ret_work (r : Result) (s : State) :
    (Micro.perform (.ret r) s).work = s.work := rfl
@[simp] theorem perform_ret_trace (r : Result) (s : State) :
    (Micro.perform (.ret r) s).trace = s.trace := rfl
@[simp] theorem perform_ret_pending (r : Result) (s : State) :
    (Micro.perform (.ret r) s).pending = s.pending := rfl
@[simp] theorem perform_ret_stepwise (r : Result) (s : State) :
    (Micro.perform (.ret r) s).stepwise = s.stepwise := rfl
@[simp] theorem perform_ret_requests (r : Result) (s : State) :
    (Micro.perform (.ret r) s).requests = s.requests := rfl
@[simp] theorem perform_ret_result (r : Result) (s : State) :
    (Micro.perform (.ret r) s).result = r := rfl
@[simp] theorem perform_ret_draws (r : Result) (s : State) :
    (Micro.perform (.ret r) s).draws = s.draws := rfl

/-! ### Events -/

@[simp] theorem perform_emit (e : Event) (s : State) :
    Micro.perform (.emit e) s = emitEvent e s := rfl

@[simp] theorem emit_w_params (l : Line) (v : Level) (s : State) :
    (emitEvent (.w l v) s).params = s.params := rfl
@[simp] theorem emit_w_life (l : Line) (v : Level) (s : State) :
    (emitEvent (.w l v) s).life = s.life := rfl
@[simp] theorem emit_w_busy (l : Line) (v : Level) (s : State) :
    (emitEvent (.w l v) s).busy = s.busy := rfl
@[simp] theorem emit_w_owned (l : Line) (v : Level) (s : State) :
    (emitEvent (.w l v) s).owned = s.owned := rfl
@[simp] theorem emit_w_dirOut (l : Line) (v : Level) (s : State) :
    (emitEvent (.w l v) s).dirOut = s.dirOut := rfl
@[simp] theorem emit_w_line (l : Line) (v : Level) (s : State) :
    (emitEvent (.w l v) s).line = setLine s.line l v := rfl
@[simp] theorem emit_w_railEn (l : Line) (v : Level) (s : State) :
    (emitEvent (.w l v) s).railEn = s.railEn := rfl
@[simp] theorem emit_w_handle (l : Line) (v : Level) (s : State) :
    (emitEvent (.w l v) s).handle = s.handle := rfl
@[simp] theorem emit_w_device (l : Line) (v : Level) (s : State) :
    (emitEvent (.w l v) s).device = s.device := rfl
@[simp] theorem emit_w_work (l : Line) (v : Level) (s : State) :
    (emitEvent (.w l v) s).work = s.work := rfl
@[simp] theorem emit_w_pending (l : Line) (v : Level) (s : State) :
    (emitEvent (.w l v) s).pending = s.pending := rfl
@[simp] theorem emit_w_stepwise (l : Line) (v : Level) (s : State) :
    (emitEvent (.w l v) s).stepwise = s.stepwise := rfl
@[simp] theorem emit_w_requests (l : Line) (v : Level) (s : State) :
    (emitEvent (.w l v) s).requests = s.requests := rfl
@[simp] theorem emit_w_result (l : Line) (v : Level) (s : State) :
    (emitEvent (.w l v) s).result = s.result := rfl
@[simp] theorem emit_w_draws (l : Line) (v : Level) (s : State) :
    (emitEvent (.w l v) s).draws = s.draws := rfl

@[simp] theorem emit_h_params (s : State) :
    (emitEvent (.h) s).params = s.params := rfl
@[simp] theorem emit_h_life (s : State) :
    (emitEvent (.h) s).life = s.life := rfl
@[simp] theorem emit_h_busy (s : State) :
    (emitEvent (.h) s).busy = s.busy := rfl
@[simp] theorem emit_h_owned (s : State) :
    (emitEvent (.h) s).owned = s.owned := rfl
@[simp] theorem emit_h_dirOut (s : State) :
    (emitEvent (.h) s).dirOut = s.dirOut := rfl
@[simp] theorem emit_h_line (s : State) :
    (emitEvent (.h) s).line = s.line := rfl
@[simp] theorem emit_h_railEn (s : State) :
    (emitEvent (.h) s).railEn = s.railEn := rfl
@[simp] theorem emit_h_handle (s : State) :
    (emitEvent (.h) s).handle = s.handle := rfl
@[simp] theorem emit_h_device (s : State) :
    (emitEvent (.h) s).device = s.device := rfl
@[simp] theorem emit_h_work (s : State) :
    (emitEvent (.h) s).work = s.work := rfl
@[simp] theorem emit_h_pending (s : State) :
    (emitEvent (.h) s).pending = s.pending := rfl
@[simp] theorem emit_h_stepwise (s : State) :
    (emitEvent (.h) s).stepwise = s.stepwise := rfl
@[simp] theorem emit_h_requests (s : State) :
    (emitEvent (.h) s).requests = s.requests := rfl
@[simp] theorem emit_h_result (s : State) :
    (emitEvent (.h) s).result = s.result := rfl
@[simp] theorem emit_h_draws (s : State) :
    (emitEvent (.h) s).draws = s.draws := rfl

@[simp] theorem emit_s_params (n : Nat) (s : State) :
    (emitEvent (.s n) s).params = s.params := rfl
@[simp] theorem emit_s_life (n : Nat) (s : State) :
    (emitEvent (.s n) s).life = s.life := rfl
@[simp] theorem emit_s_busy (n : Nat) (s : State) :
    (emitEvent (.s n) s).busy = s.busy := rfl
@[simp] theorem emit_s_owned (n : Nat) (s : State) :
    (emitEvent (.s n) s).owned = s.owned := rfl
@[simp] theorem emit_s_dirOut (n : Nat) (s : State) :
    (emitEvent (.s n) s).dirOut = s.dirOut := rfl
@[simp] theorem emit_s_line (n : Nat) (s : State) :
    (emitEvent (.s n) s).line = s.line := rfl
@[simp] theorem emit_s_railEn (n : Nat) (s : State) :
    (emitEvent (.s n) s).railEn = s.railEn := rfl
@[simp] theorem emit_s_handle (n : Nat) (s : State) :
    (emitEvent (.s n) s).handle = s.handle := rfl
@[simp] theorem emit_s_device (n : Nat) (s : State) :
    (emitEvent (.s n) s).device = s.device := rfl
@[simp] theorem emit_s_work (n : Nat) (s : State) :
    (emitEvent (.s n) s).work = s.work := rfl
@[simp] theorem emit_s_pending (n : Nat) (s : State) :
    (emitEvent (.s n) s).pending = s.pending := rfl
@[simp] theorem emit_s_stepwise (n : Nat) (s : State) :
    (emitEvent (.s n) s).stepwise = s.stepwise := rfl
@[simp] theorem emit_s_requests (n : Nat) (s : State) :
    (emitEvent (.s n) s).requests = s.requests := rfl
@[simp] theorem emit_s_result (n : Nat) (s : State) :
    (emitEvent (.s n) s).result = s.result := rfl
@[simp] theorem emit_s_draws (n : Nat) (s : State) :
    (emitEvent (.s n) s).draws = s.draws := rfl

@[simp] theorem emit_rail_params (r : Rail) (v : Level) (s : State) :
    (emitEvent (.rail r v) s).params = s.params := rfl
@[simp] theorem emit_rail_life (r : Rail) (v : Level) (s : State) :
    (emitEvent (.rail r v) s).life = s.life := rfl
@[simp] theorem emit_rail_busy (r : Rail) (v : Level) (s : State) :
    (emitEvent (.rail r v) s).busy = s.busy := rfl
@[simp] theorem emit_rail_owned (r : Rail) (v : Level) (s : State) :
    (emitEvent (.rail r v) s).owned = s.owned := rfl
@[simp] theorem emit_rail_dirOut (r : Rail) (v : Level) (s : State) :
    (emitEvent (.rail r v) s).dirOut = s.dirOut := rfl
@[simp] theorem emit_rail_line (r : Rail) (v : Level) (s : State) :
    (emitEvent (.rail r v) s).line = s.line := rfl
@[simp] theorem emit_rail_railEn (r : Rail) (v : Level) (s : State) :
    (emitEvent (.rail r v) s).railEn = setRail s.railEn r v := rfl
@[simp] theorem emit_rail_handle (r : Rail) (v : Level) (s : State) :
    (emitEvent (.rail r v) s).handle = s.handle := rfl
@[simp] theorem emit_rail_device (r : Rail) (v : Level) (s : State) :
    (emitEvent (.rail r v) s).device = s.device := rfl
@[simp] theorem emit_rail_work (r : Rail) (v : Level) (s : State) :
    (emitEvent (.rail r v) s).work = s.work := rfl
@[simp] theorem emit_rail_pending (r : Rail) (v : Level) (s : State) :
    (emitEvent (.rail r v) s).pending = s.pending := rfl
@[simp] theorem emit_rail_stepwise (r : Rail) (v : Level) (s : State) :
    (emitEvent (.rail r v) s).stepwise = s.stepwise := rfl
@[simp] theorem emit_rail_requests (r : Rail) (v : Level) (s : State) :
    (emitEvent (.rail r v) s).requests = s.requests := rfl
@[simp] theorem emit_rail_result (r : Rail) (v : Level) (s : State) :
    (emitEvent (.rail r v) s).result = s.result := rfl
@[simp] theorem emit_rail_draws (r : Rail) (v : Level) (s : State) :
    (emitEvent (.rail r v) s).draws = s.draws := rfl

@[simp] theorem emit_dir_params (l : Line) (v : Level) (s : State) :
    (emitEvent (.dir l v) s).params = s.params := rfl
@[simp] theorem emit_dir_life (l : Line) (v : Level) (s : State) :
    (emitEvent (.dir l v) s).life = s.life := rfl
@[simp] theorem emit_dir_busy (l : Line) (v : Level) (s : State) :
    (emitEvent (.dir l v) s).busy = s.busy := rfl
@[simp] theorem emit_dir_owned (l : Line) (v : Level) (s : State) :
    (emitEvent (.dir l v) s).owned = s.owned := rfl
@[simp] theorem emit_dir_dirOut (l : Line) (v : Level) (s : State) :
    (emitEvent (.dir l v) s).dirOut = setLine s.dirOut l true := rfl
@[simp] theorem emit_dir_line (l : Line) (v : Level) (s : State) :
    (emitEvent (.dir l v) s).line = setLine s.line l v := rfl
@[simp] theorem emit_dir_railEn (l : Line) (v : Level) (s : State) :
    (emitEvent (.dir l v) s).railEn = s.railEn := rfl
@[simp] theorem emit_dir_handle (l : Line) (v : Level) (s : State) :
    (emitEvent (.dir l v) s).handle = s.handle := rfl
@[simp] theorem emit_dir_device (l : Line) (v : Level) (s : State) :
    (emitEvent (.dir l v) s).device = s.device := rfl
@[simp] theorem emit_dir_work (l : Line) (v : Level) (s : State) :
    (emitEvent (.dir l v) s).work = s.work := rfl
@[simp] theorem emit_dir_pending (l : Line) (v : Level) (s : State) :
    (emitEvent (.dir l v) s).pending = s.pending := rfl
@[simp] theorem emit_dir_stepwise (l : Line) (v : Level) (s : State) :
    (emitEvent (.dir l v) s).stepwise = s.stepwise := rfl
@[simp] theorem emit_dir_requests (l : Line) (v : Level) (s : State) :
    (emitEvent (.dir l v) s).requests = s.requests := rfl
@[simp] theorem emit_dir_result (l : Line) (v : Level) (s : State) :
    (emitEvent (.dir l v) s).result = s.result := rfl
@[simp] theorem emit_dir_draws (l : Line) (v : Level) (s : State) :
    (emitEvent (.dir l v) s).draws = s.draws := rfl

@[simp] theorem emit_lookup_params (r : Rail) (found : Bool) (s : State) :
    (emitEvent (.lookup r found) s).params = s.params := rfl
@[simp] theorem emit_lookup_life (r : Rail) (found : Bool) (s : State) :
    (emitEvent (.lookup r found) s).life = s.life := rfl
@[simp] theorem emit_lookup_busy (r : Rail) (found : Bool) (s : State) :
    (emitEvent (.lookup r found) s).busy = s.busy := rfl
@[simp] theorem emit_lookup_owned (r : Rail) (found : Bool) (s : State) :
    (emitEvent (.lookup r found) s).owned = s.owned := rfl
@[simp] theorem emit_lookup_dirOut (r : Rail) (found : Bool) (s : State) :
    (emitEvent (.lookup r found) s).dirOut = s.dirOut := rfl
@[simp] theorem emit_lookup_line (r : Rail) (found : Bool) (s : State) :
    (emitEvent (.lookup r found) s).line = s.line := rfl
@[simp] theorem emit_lookup_railEn (r : Rail) (found : Bool) (s : State) :
    (emitEvent (.lookup r found) s).railEn = s.railEn := rfl
@[simp] theorem emit_lookup_handle (r : Rail) (found : Bool) (s : State) :
    (emitEvent (.lookup r found) s).handle = { s.handle with present := setRail s.handle.present r found } := rfl
@[simp] theorem emit_lookup_device (r : Rail) (found : Bool) (s : State) :
    (emitEvent (.lookup r found) s).device = s.device := rfl
@[simp] theorem emit_lookup_work (r : Rail) (found : Bool) (s : State) :
    (emitEvent (.lookup r found) s).work = s.work := rfl
@[simp] theorem emit_lookup_pending (r : Rail) (found : Bool) (s : State) :
    (emitEvent (.lookup r found) s).pending = s.pending := rfl
@[simp] theorem emit_lookup_stepwise (r : Rail) (found : Bool) (s : State) :
    (emitEvent (.lookup r found) s).stepwise = s.stepwise := rfl
@[simp] theorem emit_lookup_requests (r : Rail) (found : Bool) (s : State) :
    (emitEvent (.lookup r found) s).requests = s.requests := rfl
@[simp] theorem emit_lookup_result (r : Rail) (found : Bool) (s : State) :
    (emitEvent (.lookup r found) s).result = s.result := rfl
@[simp] theorem emit_lookup_draws (r : Rail) (found : Bool) (s : State) :
    (emitEvent (.lookup r found) s).draws = s.draws := rfl

@[simp] theorem emit_regRel_params (r : Rail) (s : State) :
    (emitEvent (.regRel r) s).params = s.params := rfl
@[simp] theorem emit_regRel_life (r : Rail) (s : State) :
    (emitEvent (.regRel r) s).life = s.life := rfl
@[simp] theorem emit_regRel_busy (r : Rail) (s : State) :
    (emitEvent (.regRel r) s).busy = s.busy := rfl
@[simp] theorem emit_regRel_owned (r : Rail) (s : State) :
    (emitEvent (.regRel r) s).owned = s.owned := rfl
@[simp] theorem emit_regRel_dirOut (r : Rail) (s : State) :
    (emitEvent (.regRel r) s).dirOut = s.dirOut := rfl
@[simp] theorem emit_regRel_line (r : Rail) (s : State) :
    (emitEvent (.regRel r) s).line = s.line := rfl
@[simp] theorem emit_regRel_railEn (r : Rail) (s : State) :
    (emitEvent (.regRel r) s).railEn = s.railEn := rfl
@[simp] theorem emit_regRel_handle (r : Rail) (s : State) :
    (emitEvent (.regRel r) s).handle = s.handle := rfl
@[simp] theorem emit_regRel_device (r : Rail) (s : State) :
    (emitEvent (.regRel r) s).device = s.device := rfl
@[simp] theorem emit_regRel_work (r : Rail) (s : State) :
    (emitEvent (.regRel r) s).work = s.work := rfl
@[simp] theorem emit_regRel_pending (r : Rail) (s : State) :
    (emitEvent (.regRel r) s).pending = s.pending := rfl
@[simp] theorem emit_regRel_stepwise (r : Rail) (s : State) :
    (emitEvent (.regRel r) s).stepwise = s.stepwise := rfl
@[simp] theorem emit_regRel_requests (r : Rail) (s : State) :
    (emitEvent (.regRel r) s).requests = s.requests := rfl
@[simp] theorem emit_regRel_result (r : Rail) (s : State) :
    (emitEvent (.regRel r) s).result = s.result := rfl
@[simp] theorem emit_regRel_draws (r : Rail) (s : State) :
    (emitEvent (.regRel r) s).draws = s.draws := rfl

@[simp] theorem emit_bdNew_params (s : State) :
    (emitEvent (.bdNew) s).params = s.params := rfl
@[simp] theorem emit_bdNew_life (s : State) :
    (emitEvent (.bdNew) s).life = s.life := rfl
@[simp] theorem emit_bdNew_busy (s : State) :
    (emitEvent (.bdNew) s).busy = s.busy := rfl
@[simp] theorem emit_bdNew_owned (s : State) :
    (emitEvent (.bdNew) s).owned = s.owned := rfl
@[simp] theorem emit_bdNew_dirOut (s : State) :
    (emitEvent (.bdNew) s).dirOut = s.dirOut := rfl
@[simp] theorem emit_bdNew_line (s : State) :
    (emitEvent (.bdNew) s).line = s.line := rfl
@[simp] theorem emit_bdNew_railEn (s : State) :
    (emitEvent (.bdNew) s).railEn = s.railEn := rfl
@[simp] theorem emit_bdNew_handle (s : State) :
    (emitEvent (.bdNew) s).handle = s.handle := rfl
@[simp] theorem emit_bdNew_device (s : State) :
    (emitEvent (.bdNew) s).device = s.device := rfl
@[simp] theorem emit_bdNew_work (s : State) :
    (emitEvent (.bdNew) s).work = s.work := rfl
@[simp] theorem emit_bdNew_pending (s : State) :
    (emitEvent (.bdNew) s).pending = s.pending := rfl
@[simp] theorem emit_bdNew_stepwise (s : State) :
    (emitEvent (.bdNew) s).stepwise = s.stepwise := rfl
@[simp] theorem emit_bdNew_requests (s : State) :
    (emitEvent (.bdNew) s).requests = s.requests := rfl
@[simp] theorem emit_bdNew_result (s : State) :
    (emitEvent (.bdNew) s).result = s.result := rfl
@[simp] theorem emit_bdNew_draws (s : State) :
    (emitEvent (.bdNew) s).draws = s.draws := rfl

@[simp] theorem emit_bdDel_params (s : State) :
    (emitEvent (.bdDel) s).params = s.params := rfl
@[simp] theorem emit_bdDel_life (s : State) :
    (emitEvent (.bdDel) s).life = s.life := rfl
@[simp] theorem emit_bdDel_busy (s : State) :
    (emitEvent (.bdDel) s).busy = s.busy := rfl
@[simp] theorem emit_bdDel_owned (s : State) :
    (emitEvent (.bdDel) s).owned = s.owned := rfl
@[simp] theorem emit_bdDel_dirOut (s : State) :
    (emitEvent (.bdDel) s).dirOut = s.dirOut := rfl
@[simp] theorem emit_bdDel_line (s : State) :
    (emitEvent (.bdDel) s).line = s.line := rfl
@[simp] theorem emit_bdDel_railEn (s : State) :
    (emitEvent (.bdDel) s).railEn = s.railEn := rfl
@[simp] theorem emit_bdDel_handle (s : State) :
    (emitEvent (.bdDel) s).handle = s.handle := rfl
@[simp] theorem emit_bdDel_device (s : State) :
    (emitEvent (.bdDel) s).device = s.device := rfl
@[simp] theorem emit_bdDel_work (s : State) :
    (emitEvent (.bdDel) s).work = s.work := rfl
@[simp] theorem emit_bdDel_pending (s : State) :
    (emitEvent (.bdDel) s).pending = s.pending := rfl
@[simp] theorem emit_bdDel_stepwise (s : State) :
    (emitEvent (.bdDel) s).stepwise = s.stepwise := rfl
@[simp] theorem emit_bdDel_requests (s : State) :
    (emitEvent (.bdDel) s).requests = s.requests := rfl
@[simp] theorem emit_bdDel_result (s : State) :
    (emitEvent (.bdDel) s).result = s.result := rfl
@[simp] theorem emit_bdDel_draws (s : State) :
    (emitEvent (.bdDel) s).draws = s.draws := rfl

theorem emit_claim_true (l : Line) (s : State) :
    emitEvent (.claim l true) s =
      { s with owned := setLine s.owned l true, trace := s.trace ++ [.claim l true] } := rfl

theorem emit_claim_false (l : Line) (s : State) :
    emitEvent (.claim l false) s = { s with trace := s.trace ++ [.claim l false] } := rfl

theorem emit_rel_driven (l : Line) (s : State) (h : getLine s.dirOut l = true) :
    emitEvent (.rel l) s =
      { s with
        owned := setLine s.owned l false
        line := setLine s.line l (Config.freeLevel s.draws)
        dirOut := setLine s.dirOut l false
        draws := s.draws + 1
        trace := s.trace ++ [.rel l] } := by
  simp [emitEvent, eventEffect, floatLine, h]

theorem emit_rel_undriven (l : Line) (s : State) (h : getLine s.dirOut l = false) :
    emitEvent (.rel l) s =
      { s with owned := setLine s.owned l false, trace := s.trace ++ [.rel l] } := by
  simp [emitEvent, eventEffect, h]

/-! ### Any event -/

@[simp] theorem emit_trace (e : Event) (s : State) : (emitEvent e s).trace = s.trace ++ [e] := by
  cases e <;> simp only [emitEvent, eventEffect, floatLine] <;> repeat' split <;> rfl

@[simp] theorem emit_params (e : Event) (s : State) : (emitEvent e s).params = s.params := by
  cases e <;> simp only [emitEvent, eventEffect, floatLine] <;> repeat' split <;> rfl

@[simp] theorem emit_life (e : Event) (s : State) : (emitEvent e s).life = s.life := by
  cases e <;> simp only [emitEvent, eventEffect, floatLine] <;> repeat' split <;> rfl

@[simp] theorem emit_busy (e : Event) (s : State) : (emitEvent e s).busy = s.busy := by
  cases e <;> simp only [emitEvent, eventEffect, floatLine] <;> repeat' split <;> rfl

@[simp] theorem emit_device (e : Event) (s : State) : (emitEvent e s).device = s.device := by
  cases e <;> simp only [emitEvent, eventEffect, floatLine] <;> repeat' split <;> rfl

@[simp] theorem emit_work (e : Event) (s : State) : (emitEvent e s).work = s.work := by
  cases e <;> simp only [emitEvent, eventEffect, floatLine] <;> repeat' split <;> rfl

@[simp] theorem emit_pending (e : Event) (s : State) : (emitEvent e s).pending = s.pending := by
  cases e <;> simp only [emitEvent, eventEffect, floatLine] <;> repeat' split <;> rfl

@[simp] theorem emit_stepwise (e : Event) (s : State) : (emitEvent e s).stepwise = s.stepwise := by
  cases e <;> simp only [emitEvent, eventEffect, floatLine] <;> repeat' split <;> rfl

@[simp] theorem emit_requests (e : Event) (s : State) : (emitEvent e s).requests = s.requests := by
  cases e <;> simp only [emitEvent, eventEffect, floatLine] <;> repeat' split <;> rfl

@[simp] theorem emit_result (e : Event) (s : State) : (emitEvent e s).result = s.result := by
  cases e <;> simp only [emitEvent, eventEffect, floatLine] <;> repeat' split <;> rfl

end Sys2Proof.Machine
end

