-- ==== Sys2Proof/Laws/Ops.lean ====
section
/-! SUPPORT. What the shared operations can do, each said once: running steps, starting and finishing an
operation, admission, the error, and one step of the machine. -/

namespace Sys2Proof.Machine

/-! ### Running steps -/

@[simp] theorem runMicros_nil (s : State) : runMicros [] s = s := rfl

@[simp] theorem runMicros_cons (m : Micro) (ms : List Micro) (s : State) :
    runMicros (m :: ms) s = runMicros ms (m.perform s) := rfl

theorem runMicros_append (ms ns : List Micro) (s : State) :
    runMicros (ms ++ ns) s = runMicros ns (runMicros ms s) := by
  induction ms generalizing s with
  | nil => rfl
  | cons m ms ih => exact ih _

/-- The events a list of steps emits. -/
def microEvents : List Micro → List Event
  | [] => []
  | .emit e :: ms => e :: microEvents ms
  | _ :: ms => microEvents ms

/-- The trace grows by exactly the events of the steps, in order (R8, R38). -/
theorem runMicros_trace (ms : List Micro) (s : State) :
    (runMicros ms s).trace = s.trace ++ microEvents ms := by
  induction ms generalizing s with
  | nil => simp [microEvents]
  | cons m ms ih => cases m <;> simp [microEvents, ih]

@[simp] theorem perform_params (m : Micro) (s : State) : (m.perform s).params = s.params := by
  cases m <;> simp
@[simp] theorem perform_pending (m : Micro) (s : State) : (m.perform s).pending = s.pending := by
  cases m <;> simp
@[simp] theorem perform_requests (m : Micro) (s : State) : (m.perform s).requests = s.requests := by
  cases m <;> simp
@[simp] theorem perform_stepwise (m : Micro) (s : State) : (m.perform s).stepwise = s.stepwise := by
  cases m <;> simp

@[simp] theorem runMicros_params (ms : List Micro) (s : State) :
    (runMicros ms s).params = s.params := by
  induction ms generalizing s with
  | nil => rfl
  | cons m ms ih => simp [ih]
@[simp] theorem runMicros_pending (ms : List Micro) (s : State) :
    (runMicros ms s).pending = s.pending := by
  induction ms generalizing s with
  | nil => rfl
  | cons m ms ih => simp [ih]
@[simp] theorem runMicros_requests (ms : List Micro) (s : State) :
    (runMicros ms s).requests = s.requests := by
  induction ms generalizing s with
  | nil => rfl
  | cons m ms ih => simp [ih]
@[simp] theorem runMicros_stepwise (ms : List Micro) (s : State) :
    (runMicros ms s).stepwise = s.stepwise := by
  induction ms generalizing s with
  | nil => rfl
  | cons m ms ih => simp [ih]

/-- A step neither reads nor writes what is still in flight. -/
theorem perform_setPending (m : Micro) (s : State) (ps : List Micro) :
    m.perform { s with pending := ps } = { m.perform s with pending := ps } := by
  cases m with
  | emit e =>
    cases e with
    | claim l ok => cases ok <;> rfl
    | rel l => simp only [Micro.perform, emitEvent, eventEffect, floatLine]; split <;> rfl
    | _ => rfl
  | _ => rfl

theorem runMicros_setPending (ms : List Micro) (s : State) (ps : List Micro) :
    runMicros ms { s with pending := ps } = { runMicros ms s with pending := ps } := by
  induction ms generalizing s with
  | nil => rfl
  | cons m ms ih => rw [runMicros_cons, runMicros_cons, perform_setPending, ih]

/-- A step neither reads nor writes the granularity. -/
theorem perform_setStepwise (m : Micro) (s : State) (b : Bool) :
    m.perform { s with stepwise := b } = { m.perform s with stepwise := b } := by
  cases m with
  | emit e =>
    cases e with
    | claim l ok => cases ok <;> rfl
    | rel l => simp only [Micro.perform, emitEvent, eventEffect, floatLine]; split <;> rfl
    | _ => rfl
  | _ => rfl

theorem runMicros_setStepwise (ms : List Micro) (s : State) (b : Bool) :
    runMicros ms { s with stepwise := b } = { runMicros ms s with stepwise := b } := by
  induction ms generalizing s with
  | nil => rfl
  | cons m ms ih => rw [runMicros_cons, runMicros_cons, perform_setStepwise, ih]

/-! ### Starting and finishing -/

theorem finish_of_idle {s : State} (h : s.pending = []) : s.finish = s := by
  simp only [State.finish, h, runMicros_nil]
  cases s; cases h; rfl

/-- With nothing else in flight, an operation that has started finishes in the state its steps lead to,
whichever granularity the machine has. -/
theorem finish_start {s : State} (h : s.pending = []) (ms : List Micro) :
    (s.start ms).finish = runMicros ms s := by
  unfold State.start
  split
  · simp only [State.finish, h, List.append_nil]
    congr 1; cases s; cases h; rfl
  · exact finish_of_idle (by simp [h])

@[simp] theorem start_requests (s : State) (ms : List Micro) : (s.start ms).requests = s.requests := by
  unfold State.start; split <;> simp

@[simp] theorem start_params (s : State) (ms : List Micro) : (s.start ms).params = s.params := by
  unfold State.start; split <;> simp

/-- Performing the next step of what is in flight does not change where it ends. -/
theorem finish_perform (m : Micro) (ms : List Micro) (s : State) (h : s.pending = m :: ms) :
    (m.perform { s with pending := ms }).finish = s.finish := by
  simp only [State.finish, perform_pending, h, runMicros_cons]
  rw [perform_setPending m s ms, perform_setPending m s []]

/-! ### Admission -/

/-- An internal operation answers a next state that finishes where its steps lead. -/
theorem runInternal_next {s : State} (h : s.pending = []) (ms : List Micro) :
    ∃ t, runInternal s ms = .next t ∧ t.finish = runMicros ms s :=
  ⟨_, rfl, finish_start h ms⟩

/-- An accepted external operation answers a next state that finishes where its steps lead from the
busy state, with the result returned and `BUSY` clear. -/
theorem accept_next {s : State} (h : s.pending = []) (ms : List Micro) (r : Result) :
    ∃ t, accept s ms r = .next t ∧
      t.finish = { runMicros ms { s with busy := true } with busy := false, result := r } := by
  refine ⟨_, rfl, ?_⟩
  rw [finish_start (s := { s with busy := true }) h, runMicros_append]
  rfl

/-- Everything the admission of an external operation can answer (R63, R205). -/
theorem acceptAttached_cases (s : State) (ms : List Micro) (r : Result) :
    (s.busy = true ∧ acceptAttached s ms r = .refused .busy) ∨
    (s.busy = false ∧ s.life = .detached ∧ acceptAttached s ms r = .refused .notAttached) ∨
    (s.busy = false ∧ s.life = .attached ∧ acceptAttached s ms r = accept s ms r) := by
  unfold acceptAttached
  cases s.busy <;> cases s.life <;> simp

theorem acceptAttached_next {s : State} (hb : s.busy = false) (hl : s.life = .attached)
    (hp : s.pending = []) (ms : List Micro) (r : Result) :
    ∃ t, acceptAttached s ms r = .next t ∧
      t.finish = { runMicros ms { s with busy := true } with busy := false, result := r } := by
  have h : acceptAttached s ms r = accept s ms r := by
    rcases acceptAttached_cases s ms r with h | h | h
    · simp [h.1] at hb
    · simp [h.2.1] at hl
    · exact h.2.2
  rw [h]
  exact accept_next hp ms r

/-! ### The error -/

/-- The error releases what was claimed, most recent first, and nothing else happens outside (R192). -/
theorem raise_events (claimed : List Line) (l : Line) :
    microEvents (raiseResourceUnavailable claimed l) = claimed.map .rel := by
  induction claimed with
  | nil => rfl
  | cons c cs ih => simpa [raiseResourceUnavailable, microEvents, release] using ih

/-- The error is what attach returns, and the block is no longer busy (R191). -/
theorem raise_result (claimed : List Line) (l : Line) (s : State) :
    (runMicros (raiseResourceUnavailable claimed l) s).result = .resourceUnavailable l ∧
    (runMicros (raiseResourceUnavailable claimed l) s).busy = false := by
  simp [raiseResourceUnavailable, runMicros_append]

/-! ### One step -/

/-- Everything a step can do when it answers a next state. -/
theorem step_cases {s t : State} (h : step s = .next t) :
    (∃ m ms, s.pending = m :: ms ∧ t = m.perform { s with pending := ms }) ∨
    (s.pending = [] ∧ s.requests = [] ∧ t = s) ∨
    (∃ r rest i, s.pending = [] ∧ s.requests = r :: rest ∧ fetchRequest r = .ok i ∧
      exec i { s with requests := rest } = .next t) := by
  unfold step at h
  split at h
  · exact .inl ⟨_, _, ‹_›, (Host.Outcome.next.inj h).symm⟩
  · split at h
    · exact .inr (.inl ⟨‹_›, ‹_›, (Host.Outcome.next.inj h).symm⟩)
    · split at h
      · cases h
      · exact .inr (.inr ⟨_, _, _, ‹_›, ‹_›, ‹_›, h⟩)

/-- The instruction a request is taken as: its fields decode to it, and its caller may invoke it. -/
theorem fetchRequest_ok {r : Request} {i : Instr} (h : fetchRequest r = .ok i) :
    decode r.format r.fields = .ok i ∧ mayInvoke r.caller i = true := by
  unfold fetchRequest at h
  split at h
  · cases h
  · split at h
    · cases h; exact ⟨‹_›, ‹_›⟩
    · cases h

end Sys2Proof.Machine
end

