-- ==== Sys2Proof/Laws/PerInstr.lean ====
section
/-! SUPPORT. Statements made for every instruction. Family `TableRow`: the encoder writes each instruction
in the format of its row of spec/opcode_table.json, and the row's mask and match fit the field that
selects it. The expected numbers stand here as the table gives them. -/

namespace Sys2Proof.Laws.TableRow

/-- Format, mask and match of an instruction's row; a Command row has neither mask nor match. -/
def row : Instr → Format × Nat × Nat
  | .cword _ => (.w9, 0x100, 0x000)
  | .pword _ => (.w9, 0x100, 0x100)
  | .cmd _ => (.cmd, 0, 0)
  | .setbrt _ => (.setbrt, 0, 0)
  | .transmitWord _ => (.op, 0xF, 0x0)
  | .send _ => (.op, 0xF, 0x1)
  | .play _ => (.op, 0xF, 0x2)
  | .setPowerOn => (.op, 0xF, 0x3)
  | .setPowerOff => (.op, 0xF, 0x4)
  | .update _ _ _ => (.op, 0xF, 0x5)
  | .updateStatus _ _ _ => (.op, 0xF, 0x6)
  | .getCurrentBrightness => (.op, 0xF, 0x7)
  | .attach _ => (.op, 0xF, 0x8)
  | .detach => (.op, 0xF, 0x9)
  | .suspend => (.op, 0xF, 0xA)
  | .resume => (.op, 0xF, 0xB)

/-- The width of the selecting field (a word is 9 bits, a selector 4). -/
def width : Format → Nat
  | .w9 => 9
  | .cmd => 8
  | .setbrt => 8
  | .op => 4

/-- The encoding is in the row's format, its first field fits the format's width, and it has the row's
fixed bits. -/
def Statement (i : Instr) : Prop :=
  (encode i).1 = (row i).1 ∧
    ∃ x xs, (encode i).2 = x :: xs ∧ x < 2 ^ width (row i).1 ∧ x &&& (row i).2.1 = (row i).2.2

theorem cword (b : Byte) : Statement (.cword b) :=
  ⟨rfl, _, _, rfl, (cwordBits b).isLt, by revert b; decide⟩
theorem pword (b : Byte) : Statement (.pword b) :=
  ⟨rfl, _, _, rfl, (pwordBits b).isLt, by revert b; decide⟩
theorem cmd (c : CommandRec) : Statement (.cmd c) :=
  ⟨rfl, _, _, rfl, c.opcode.isLt, Nat.and_zero _⟩
theorem setbrt (b : Byte) : Statement (.setbrt b) := ⟨rfl, _, _, rfl, b.isLt, Nat.and_zero _⟩
theorem transmitWord (w : Word9) : Statement (.transmitWord w) := ⟨rfl, _, _, rfl, by simp [row, width], by simp [row]⟩
theorem send (c : CommandRec) : Statement (.send c) := ⟨rfl, _, _, rfl, by simp [row, width], by simp [row]⟩
theorem play (s : SeqId) : Statement (.play s) := ⟨rfl, _, _, rfl, by simp [row, width], by simp [row]⟩
theorem setPowerOn : Statement .setPowerOn := ⟨rfl, _, _, rfl, by simp [row, width], by simp [row]⟩
theorem setPowerOff : Statement .setPowerOff := ⟨rfl, _, _, rfl, by simp [row, width], by simp [row]⟩
theorem update (b : Byte) (blanked suspended : Bool) : Statement (.update b blanked suspended) :=
  ⟨rfl, _, _, rfl, by simp [row, width], by simp [row]⟩
theorem updateStatus (b : Byte) (blankState suspendState : Bool) :
    Statement (.updateStatus b blankState suspendState) := ⟨rfl, _, _, rfl, by simp [row, width], by simp [row]⟩
theorem getCurrentBrightness : Statement .getCurrentBrightness := ⟨rfl, _, _, rfl, by simp [row, width], by simp [row]⟩
theorem attach (cfg : AttachConfig) : Statement (.attach cfg) := ⟨rfl, _, _, rfl, by simp [row, width], by simp [row]⟩
theorem detach : Statement .detach := ⟨rfl, _, _, rfl, by simp [row, width], by simp [row]⟩
theorem suspend : Statement .suspend := ⟨rfl, _, _, rfl, by simp [row, width], by simp [row]⟩
theorem resume : Statement .resume := ⟨rfl, _, _, rfl, by simp [row, width], by simp [row]⟩

end Sys2Proof.Laws.TableRow
end

