-- ==== Sys2Proof/Tests/Slice0.lean ====
section
/-! SUPPORT. The model's own tests: the WellFormed smoke, decoding of words written out from the spec, one
step of each instruction against the vectors of spec/95 (named V or E in each docstring), and for each
statement with hypotheses a state and operands that meet them. BRIGHTNESS_OPCODE is open (R77): these
states take the stand-in 51 hex for it, as the spec's vectors write BO. -/

namespace Sys2Proof.Tests

open Sys2Proof.Machine Sys2Proof.Safety Sys2Proof.Claims

/-! ### Small states -/

def params : Params := ⟨false, true, 0x51#8, [], [], .afterAllClaims, .skip⟩

def a1 : CommandRec := ⟨0xA1#8, 1, [0x5A#8], 5⟩
def b2 : CommandRec := ⟨0xB2#8, 0, [], 0⟩
def c3 : CommandRec := ⟨0xC3#8, 0, [], 20⟩
/-- V10. -/
def v10 : CommandRec := ⟨0x2A#8, 2, [0x00#8, 0x10#8], 5⟩
/-- V12: the largest Command. -/
def v12 : CommandRec :=
  ⟨0x00#8, 15, [0x00#8, 0x01#8, 0x02#8, 0x03#8, 0x04#8, 0x05#8, 0x06#8, 0x07#8, 0x08#8, 0x09#8, 0x0A#8,
    0x0B#8, 0x0C#8, 0x0D#8, 0x0E#8], 0⟩
/-- E18: one parameter too many. -/
def tooMany : CommandRec := ⟨0x2A#8, 16, List.replicate 16 0#8, 0⟩
/-- E20: fewer bytes than the count. -/
def tooFew : CommandRec := ⟨0x2A#8, 2, [0x11#8], 0⟩

def bare : State := { State.reset with params := params }

/-- An attached block, in the state the spec's vectors start from (spec/95, sections 2.5 to 2.10). -/
def live (power : Power) (brt : Byte) (present : Rails Bool) : State :=
  { bare with
    life := .attached
    owned := ⟨true, true, true, true⟩
    dirOut := ⟨true, true, true, true⟩
    line := ⟨true, true, false, decide (power = .on)⟩
    handle := ⟨⟨0, 0, 0, 0⟩, present, power, brt, [⟨a1, rfl⟩, ⟨b2, rfl⟩], [⟨c3, rfl⟩]⟩
    device := ⟨brt, decide (power = .off), false⟩ }

def both : Rails Bool := ⟨true, true⟩
def liveOn : State := live .on 0x80#8 both
def liveOff : State := live .off 0x80#8 both

/-- V66, with every line claimable. -/
def config : AttachConfig :=
  ⟨⟨7, 8, 9, 10⟩, both, some [a1, b2], some [c3], ⟨true, true, true, true⟩⟩

def state? (o : Host.Outcome State Fault Refusal) : Option State :=
  match o with
  | .next s => some s
  | .fault _ => none
  | .refused _ => none

def refusal? (o : Host.Outcome State Fault Refusal) : Option Refusal :=
  match o with
  | .next _ => none
  | .fault _ => none
  | .refused r => some r

/-- What one request does to a field. -/
def after {α : Type} (i : Instr) (s : State) (f : State → α) : Option α := (state? (exec i s)).map f

/-- The words the reference receiver reads, none where a frame is malformed. -/
def words (s : State) : List (Option Word9) :=
  (decodeTrace s.params s.trace).map fun x =>
    match x with
    | .word w => some w
    | .malformed _ => none

/-- The events that are no serial write and no hold. -/
def slow (s : State) : List Event := s.trace.filter fun e => !isSerial e && !isHold e

/-- Writes, holds and the minimum duration in microseconds. -/
def size (s : State) : Nat × Nat × Nat :=
  (s.trace.countP isWrite, s.trace.countP isHold, durMin s.trace)

/-! ### WellFormed smoke (R75, E18, E20) -/

theorem test_wf_largest : v12.wf = true := by decide
theorem test_wf_no_parameters : b2.wf = true := by decide
theorem test_wf_refuses_count_16 : tooMany.wf = false := by decide
theorem test_wf_refuses_short_list : tooFew.wf = false := by decide
theorem test_wf_refuses_in_sequence : wfSequence [a1, tooFew] = false := by decide
theorem test_wf_refuses_on_override :
    (Instr.attach { config with onOverride := some [tooMany] }).wf = false := by decide
theorem test_wf_refuses_off_override :
    (Instr.attach { config with offOverride := some [tooFew] }).wf = false := by decide
theorem test_wf_refuses_cmd : (Instr.cmd tooMany).wf = false := by decide
theorem test_wf_refuses_send : (Instr.send tooFew).wf = false := by decide
theorem test_wf_empty_sequence : wfSequence [] = true := by decide

/-! ### Words (E1 to E22) and fields written out from the spec -/

/-- E5, E9. -/
theorem test_decode_cword : decodeWord 0b0_0010_1010#9 = .cword 0x2A#8 ∧
    decodeWord 0b0_1011_0010#9 = .cword 0xB2#8 := by decide
/-- E6, E10. -/
theorem test_decode_pword : decodeWord 0b1_0010_1010#9 = .pword 0x2A#8 ∧
    decodeWord 0b1_0101_1010#9 = .pword 0x5A#8 := by decide
/-- E1 to E4, E7, E8. -/
theorem test_assemble : cwordBits 0x00#8 = 0x000#9 ∧ cwordBits 0xFF#8 = 0x0FF#9 ∧
    pwordBits 0x00#8 = 0x100#9 ∧ pwordBits 0xFF#8 = 0x1FF#9 ∧
    cwordBits 0x80#8 = 0x080#9 ∧ pwordBits 0x80#8 = 0x180#9 := by decide
/-- E11, E12, E19. -/
theorem test_wire_image : wordsOf ⟨v10, rfl⟩ = [0x02A#9, 0x100#9, 0x110#9] ∧
    wordsOf ⟨b2, rfl⟩ = [0x0B2#9] ∧
    wordsOf ⟨⟨0x2A#8, 1, [0x11#8, 0x22#8, 0x33#8], 0⟩, rfl⟩ = [0x02A#9, 0x111#9] := by decide
/-- E17. -/
theorem test_grouping : groupWords [0x0A1#9, 0x15A#9, 0x0B2#9, 0x0C3#9, 0x120#9] =
    [(0xA1#8, [0x5A#8]), (0xB2#8, []), (0xC3#8, [0x20#8])] := by decide
/-- Opcode-table rows CWORD and PWORD: the 9 bits of the word, operands in bits 7:0. -/
theorem test_table_words : decodeTableWord 16 0b0_0010_1010 = some (.cword 0x2A#8) ∧
    decodeTableWord 16 0b1_0010_1010 = some (.pword 0x2A#8) ∧
    decodeTableWord 16 0b10_0000_0000 = none := by decide
/-- Opcode-table row SETBRT: 0kkkkkkkk then 1bbbbbbbb, the first word in the low bits. -/
theorem test_table_setbrt : decodeTableWord 24 0b1_1000_0000_0_0101_0001 = some (.setbrt 0x80#8) ∧
    decodeTableWord 24 0b1_1000_0000_1_0101_0001 = none ∧
    decodeTableWord 24 0b0_1000_0000_0_0101_0001 = none := by decide
/-- R84: selectors 0 to 5. -/
theorem test_table_internal : decodeTableWord 8 0b0000 = some (.transmitWord 0#9) ∧
    decodeTableWord 8 0b0001 = some (.send ⟨0#8, 0, [], 0⟩) ∧
    decodeTableWord 8 0b0010 = some (.play .onSeq) ∧
    decodeTableWord 8 0b0011 = some .setPowerOn ∧ decodeTableWord 8 0b0100 = some .setPowerOff ∧
    decodeTableWord 8 0b0101 = some (.update 0#8 false false) := by decide
/-- R84: selectors 6 to 11. -/
theorem test_table_external : decodeTableWord 8 0b0110 = some (.updateStatus 0#8 false false) ∧
    decodeTableWord 8 0b0111 = some .getCurrentBrightness ∧
    decodeTableWord 8 0b1000 = some (.attach ⟨⟨0, 0, 0, 0⟩, ⟨false, false⟩, none, none,
      ⟨true, true, true, true⟩⟩) ∧
    decodeTableWord 8 0b1001 = some .detach ∧ decodeTableWord 8 0b1010 = some .suspend ∧
    decodeTableWord 8 0b1011 = some .resume := by decide
/-- R83, V86. -/
theorem test_table_unassigned : decodeTableWord 8 0b1100 = none ∧ decodeTableWord 8 0b1101 = none ∧
    decodeTableWord 8 0b1110 = none ∧ decodeTableWord 8 0b1111 = none := by decide

def instr? (x : Except Reject Instr) : Option Instr :=
  match x with
  | .ok i => some i
  | .error _ => none

/-- A Command record by its fields (R74); one of 16 parameters is refused (R82). -/
theorem test_decode_cmd : instr? (decode .cmd [0x2A, 2, 2, 0x00, 0x10, 5]) = some (.cmd v10) ∧
    instr? (decode .cmd ([0x2A, 16, 16] ++ List.replicate 16 0 ++ [0])) = none := by decide
/-- Selector 1 and a record with fewer bytes than its count (E20). -/
theorem test_decode_send : instr? (decode .op [1, 0x2A, 2, 2, 0x00, 0x10, 5]) = some (.send v10) ∧
    instr? (decode .op [1, 0x2A, 2, 1, 0x11, 0]) = none := by decide
/-- The whole of an attach request, with both overrides and the claim of SDA failing. -/
theorem test_decode_attach :
    instr? (decode .op [8, 7, 8, 9, 10, 1, 1, 1, 2, 0xA1, 1, 1, 0x5A, 5, 0xB2, 0, 0, 0,
      1, 1, 0xC3, 0, 0, 20, 0, 0, 1, 0]) =
      some (.attach { config with claimable := ⟨true, true, false, true⟩ }) := by decide
/-- A field too wide, a flag of 2, a field too few and one too many are all refused. -/
theorem test_decode_refuses : instr? (decode .w9 [512]) = none ∧ instr? (decode .op [2, 2]) = none ∧
    instr? (decode .op [6, 0x80, 0]) = none ∧ instr? (decode .op [9, 0]) = none := by decide
theorem test_encode_attach : encode (.attach config) =
    (.op, [8, 7, 8, 9, 10, 1, 1, 1, 2, 0xA1, 1, 1, 0x5A, 5, 0xB2, 0, 0, 0,
      1, 1, 0xC3, 0, 0, 20, 0, 0, 0, 0]) := by decide

/-! ### One step of each instruction -/

/-- V3, event by event. -/
theorem test_transmit_word_trace : after (.transmitWord 0x12A#9) bare State.trace = some
    [.w .cs true, .h, .w .scl true, .h, .w .cs false, .h,
      .w .scl false, .h, .w .sda true, .h, .w .scl true, .h,
      .w .scl false, .h, .w .sda false, .h, .w .scl true, .h,
      .w .scl false, .h, .w .sda false, .h, .w .scl true, .h,
      .w .scl false, .h, .w .sda true, .h, .w .scl true, .h,
      .w .scl false, .h, .w .sda false, .h, .w .scl true, .h,
      .w .scl false, .h, .w .sda true, .h, .w .scl true, .h,
      .w .scl false, .h, .w .sda false, .h, .w .scl true, .h,
      .w .scl false, .h, .w .sda true, .h, .w .scl true, .h,
      .w .scl false, .h, .w .sda false, .h, .w .scl true, .h, .w .cs true, .h] := by decide +kernel
/-- V5 and V6: the size without the hold, and the receiver of the other polarity. -/
theorem test_transmit_word_params :
    after (.transmitWord 0x12A#9) { bare with params := { params with holdAfterCsAssert := false } }
      (fun s => (size s, words s)) = some ((31, 30, 300), [some 0x12A#9]) ∧
    after (.transmitWord 0x12A#9) { bare with params := { params with csAssertLevel := true } }
      (fun s => (s.line.cs, words s)) = some (false, [some 0x12A#9]) := by decide +kernel
/-- E5. -/
theorem test_cword : after (.cword 0x2A#8) bare words = some [some 0x02A#9] := by decide +kernel
/-- E6. -/
theorem test_pword : after (.pword 0x2A#8) bare words = some [some 0x12A#9] := by decide +kernel
/-- V10. -/
theorem test_cmd : after (.cmd v10) bare (fun s => (words s, slow s, size s)) =
    some ([some 0x02A#9, some 0x100#9, some 0x110#9], [.s 5], (93, 93, 5930)) := by decide +kernel
/-- V15. -/
theorem test_setbrt : after (.setbrt 0x80#8) bare (fun s => (words s, size s)) =
    some ([some 0x051#9, some 0x180#9], (62, 62, 620)) := by decide +kernel
/-- V12: after the last of sixteen words. -/
theorem test_send_largest : after (.send v12) bare (fun s => (s.work.shr, s.work.wIdx, s.work.cb.count)) =
    some (0x10E#9, 15#5, 15#4) := by decide +kernel
/-- V13. -/
theorem test_send_delay : after (.send c3) bare (fun s => (words s, slow s)) =
    some ([some 0x0C3#9], [.s 20]) := by decide +kernel
/-- V21. -/
theorem test_play : after (.play .onSeq) liveOff (fun s => (words s, slow s, s.work.sp)) =
    some ([some 0x0A1#9, some 0x15A#9, some 0x0B2#9], [.s 5], ⟨.onSeq, 2⟩) := by decide +kernel
/-- V30. -/
theorem test_set_power_on : after .setPowerOn liveOff
    (fun s => (slow s, words s, size s, s.handle.power)) =
    some ([.w .rst false, .rail .vci true, .rail .vdd3 true, .w .rst true, .s 10, .s 5],
      [some 0x0A1#9, some 0x15A#9, some 0x0B2#9], (95, 96, 15960), .on) := by decide +kernel
/-- V32: the holds are there although the rail is not. -/
theorem test_set_power_on_one_rail :
    after .setPowerOn (live .off 0x80#8 ⟨false, true⟩) (fun s => s.trace.take 7) =
    some [.w .rst false, .h, .h, .rail .vdd3 true, .h, .w .rst true, .s 10] := by decide +kernel
/-- V34. -/
theorem test_set_power_off : after .setPowerOff liveOn
    (fun s => (slow s, words s, s.line, s.handle.power)) =
    some ([.s 20, .w .rst false, .rail .vdd3 false, .rail .vci false], [some 0x0C3#9],
      ⟨true, true, true, false⟩, .off) := by decide +kernel
/-- V39. -/
theorem test_set_power_refused : refusal? (exec .setPowerOn liveOn) = some (.powerAlreadyThere .on) ∧
    refusal? (exec .setPowerOff liveOff) = some (.powerAlreadyThere .off) := by decide +kernel
/-- V43 for the internal operation: blanked from ON, the OFF transition and no brightness Command. -/
theorem test_update_blanks : after (.update 0x40#8 true false) liveOn
    (fun s => (words s, s.handle.power, s.handle.brt)) =
    some ([some 0x0C3#9], .off, 0x40#8) := by decide +kernel
/-- V41 for the internal operation: nothing is sent, the brightness is recorded. -/
theorem test_update_while_off : after (.update 0x40#8 true false) liveOff
    (fun s => (s.trace, s.handle.brt)) = some ([], 0x40#8) := by decide +kernel
/-- V42. -/
theorem test_update_status_on : after (.updateStatus 0xFF#8 false false) liveOff
    (fun s => (words s, size s, s.device, s.result)) =
    some ([some 0x0A1#9, some 0x15A#9, some 0x0B2#9, some 0x051#9, some 0x1FF#9], (157, 158, 16580),
      ⟨0xFF#8, false, false⟩, .success) := by decide +kernel
/-- V46: brightness 0 while unblanked stays ON. -/
theorem test_update_status_zero : after (.updateStatus 0x00#8 false false) liveOn
    (fun s => (words s, s.handle.power, s.busy)) =
    some ([some 0x051#9, some 0x100#9], .on, false) := by decide +kernel
/-- V50. -/
theorem test_get_brightness_on : after .getCurrentBrightness liveOn
    (fun s => (s.result, s.trace)) = some (.brightness 0x80#8, []) := by decide +kernel
/-- V51. -/
theorem test_get_brightness_off : after .getCurrentBrightness liveOff State.result =
    some (.brightness 0x00#8) := by decide +kernel
/-- V66. -/
theorem test_attach : after (.attach config) bare
    (fun s => (slow s, words s)) =
    some ([.claim .cs true, .claim .scl true, .claim .sda true, .claim .rst true, .dir .cs true,
      .dir .scl true, .dir .sda false, .dir .rst false, .lookup .vci true, .lookup .vdd3 true, .bdNew,
      .w .rst false, .rail .vci true, .rail .vdd3 true, .w .rst true, .s 10, .s 5],
      [some 0x0A1#9, some 0x15A#9, some 0x0B2#9, some 0x051#9, some 0x1FF#9]) := by decide +kernel
/-- V62. -/
theorem test_attach_fails : after (.attach { config with claimable := ⟨true, true, false, true⟩ }) bare
    (fun s => (s.trace, s.result, s.owned, s.life)) =
    some ([.claim .cs true, .claim .scl true, .claim .sda false, .rel .scl, .rel .cs],
      .resourceUnavailable .sda, ⟨false, false, false, false⟩, .detached) := by decide +kernel
/-- V74. -/
theorem test_detach_on : after .detach liveOn
    (fun s => (slow s, s.owned, s.railEn, s.life)) =
    some ([.s 20, .w .rst false, .rail .vdd3 false, .rail .vci false, .rel .rst, .rel .sda, .rel .scl,
      .rel .cs, .regRel .vci, .regRel .vdd3, .bdDel], ⟨false, false, false, false⟩, ⟨false, false⟩,
      .detached) := by decide +kernel
/-- V75. -/
theorem test_detach_off : after .detach (live .off 0x80#8 ⟨false, true⟩) State.trace =
    some [.rel .rst, .rel .sda, .rel .scl, .rel .cs, .regRel .vdd3, .bdDel] := by decide +kernel
/-- V70, suspend. -/
theorem test_suspend : after .suspend liveOn
    (fun s => (slow s, s.handle.power, s.handle.brt, s.device, s.line)) =
    some ([.s 20, .w .rst false, .rail .vdd3 false, .rail .vci false], .off, 0x80#8,
      ⟨0x80#8, false, false⟩, ⟨true, true, true, false⟩) := by decide +kernel
/-- V71, both values of SUSPEND_WHEN_OFF. -/
theorem test_suspend_off : after .suspend liveOff State.trace = some [] ∧
    after .suspend { liveOff with params := { params with suspendWhenOff := .replay } } slow =
      some [.s 20, .w .rst false, .rail .vdd3 false, .rail .vci false] := by decide +kernel
/-- V72. -/
theorem test_resume_on : after .resume liveOn words = some [some 0x051#9, some 0x180#9] := by
  decide +kernel
/-- V71, resume: the panel stays OFF. -/
theorem test_resume_blanked : after .resume liveOff (fun s => (s.trace, s.handle.power)) =
    some ([], .off) := by decide +kernel

/-! ### The receiver and the monitor -/

/-- R105: a frame without nine clock pulses is malformed. -/
theorem test_receiver_malformed : decodeTrace params [.w .cs true, .w .cs false, .w .scl false,
    .w .sda true, .w .scl true, .w .cs true] = [.malformed 1] := by decide +kernel
/-- R230, R231, R226: a word before the panel has settled, a rail before reset, a write without its hold. -/
theorem test_monitor_rejects :
    (monitor params (claimEvents params ++ [.w .rst false, .h, .w .rst true, .w .cs true])).ok = false ∧
    (monitor params (claimEvents params ++ [.w .rst false, .h, .w .rst true, .rail .vci true])).ok = false ∧
    (monitor params (claimEvents params ++
      [.w .rst false, .h, .w .rst true, .s 10, .w .cs true, .w .scl true])).ok = false ∧
    (monitor params (claimEvents params ++
      [.w .rst false, .h, .w .rst true, .s 10, .w .cs true, .h, .w .scl true])).ok = true := by decide +kernel
/-- R230, the order inside the rails: VCI after VDD3 on the way up, VCI before VDD3 on the way down, and
the right orders, also with VCI absent. -/
theorem test_monitor_rail_order :
    (monitor params (claimEvents params ++ [.w .rst false, .h, .rail .vdd3 true, .h, .rail .vci true])).ok = false ∧
    (monitor params (claimEvents params ++ [.w .rst false, .h, .rail .vci true, .h, .rail .vdd3 true, .h,
      .w .rst true, .w .rst false, .rail .vci false])).ok = false ∧
    (monitor params (claimEvents params ++ [.w .rst false, .h, .rail .vci true, .h, .rail .vdd3 true, .h,
      .w .rst true, .w .rst false, .rail .vdd3 false, .rail .vci false])).ok = true ∧
    (monitor params (claimEvents params ++ [.w .rst false, .h, .rail .vdd3 true, .h, .w .rst true,
      .w .rst false, .rail .vdd3 false])).ok = true := by decide +kernel

/-! ### Refusals and steps -/

/-- V80, V82, V83, V84. -/
theorem test_refusals :
    refusal? (exec (.updateStatus 0x80#8 false false) bare) = some .notAttached ∧
    refusal? (exec .detach bare) = some .notAttached ∧
    refusal? (exec (.attach config) liveOn) = some .alreadyAttached ∧
    refusal? (exec .resume { liveOn with busy := true }) = some .busy := by decide +kernel
/-- V69. -/
theorem test_attach_refuses_ill_formed :
    refusal? (exec (.attach { config with onOverride := some [tooMany] }) bare) =
      some .illFormedCommand := by decide +kernel

def hostAsks (s : State) (fields : List Nat) : State := { s with requests := [⟨.host, .op, fields⟩] }
def blockAsks (s : State) (fields : List Nat) : State := { s with requests := [⟨.block, .op, fields⟩] }

/-- V85: a selector of an internal operation, from the host and from the block. -/
theorem test_host_internal : refusal? (step (hostAsks liveOff [3])) = some .internalOperation ∧
    (state? (step (blockAsks liveOff [3]))).map (·.handle.power) = some .on := by decide +kernel
/-- V86. -/
theorem test_host_unassigned : refusal? (step (hostAsks liveOff [15])) =
    some (.undecodable (.unassignedSelector 15)) := by decide +kernel
/-- The first step of an operation taken one event a step (R36). -/
theorem test_stepwise : (state? (step { hostAsks liveOn [11] with stepwise := true })).map
    (fun s => (s.busy, s.trace, decide (s.pending = []))) = some (true, [], false) := by decide +kernel
/-- The instruction placed is the one the next step runs. -/
theorem test_with_fetch_word : (state? (step (bare.withFetchWord 16 0b1_0010_1010))).map words =
    some [some 0x12A#9] := by decide +kernel

/-! ### What meets the hypotheses of the statements

One theorem for each statement with hypotheses, under its name: a state and operands that meet all of them
together, for each clause. Boundary values where a clause has a range. -/

/-- The same state taken one event a step. -/
def fine (s : State) : State := { s with stepwise := true }

theorem test_witness_wordFormsByFlag :
    0x0FF#9 &&& 0x100#9 = 0x000#9 ∧ 0x100#9 &&& 0x100#9 = 0x100#9 ∧ 0x1FF#9 &&& 0x100#9 = 0x100#9 := by decide
theorem test_witness_decodeOfEncode :
    (Instr.send v12).wf = true ∧ (Instr.attach config).wf = true ∧ (Instr.cword 0xFF#8).wf = true := by decide
theorem test_witness_encodeOfDecode :
    decode .op [1, 0x2A, 2, 2, 0x00, 0x10, 5] = .ok (.send v10) ∧ decode .w9 [511] = .ok (.pword 0xFF#8) :=
  ⟨rfl, rfl⟩
theorem test_witness_unassignedSelectorsRefused :
    12 ≤ 12 ∧ (hostAsks liveOff [12]).pending = [] ∧
      (hostAsks liveOff [12]).requests = ⟨.host, .op, [12]⟩ :: [] := ⟨Nat.le_refl _, rfl, rfl⟩
theorem test_witness_transmitWordRuns : bare.pending = [] ∧ liveOn.pending = [] := ⟨rfl, rfl⟩
theorem test_witness_wordFormsRun : bare.pending = [] ∧ liveOn.pending = [] := ⟨rfl, rfl⟩
theorem test_witness_wordTraceSize :
    bare.pending = [] ∧ bare.params.holdAfterCsAssert = true ∧
      { bare with params := { params with holdAfterCsAssert := false } }.params.holdAfterCsAssert = false :=
  ⟨rfl, rfl, rfl⟩
/-- A receiver that has seen nothing, and one after a whole frame. -/
theorem test_witness_wordRoundTrip : bare.pending = [] ∧
    Receiver.init.cs ≠ some (csOn bare.params) ∧
    ((wordEvents params 0x12A#9).foldl (rxStep params) Receiver.init).cs ≠ some (csOn bare.params) := by
  decide +kernel
/-- The first data bit and the last chip-select write. -/
theorem test_witness_dataStableAtRisingEdge : bare.pending = [] ∧
    (∃ pre post, wordEvents params 0x12A#9 = pre ++ .w .sda true :: post ∧ pre ≠ []) ∧
    (∃ pre post, wordEvents params 0x12A#9 = pre ++ .w .cs true :: post ∧ pre ≠ []) :=
  ⟨rfl,
    ⟨(wordEvents params 0x12A#9).take 8, (wordEvents params 0x12A#9).drop 9, by decide +kernel⟩,
    ⟨(wordEvents params 0x12A#9).take 60, (wordEvents params 0x12A#9).drop 61, by decide +kernel⟩⟩
theorem test_witness_wordTransitions :
    liveOn.pending = [] ∧ liveOn.line.cs = csOff liveOn.params ∧ liveOn.line.scl = true := by decide
theorem test_witness_sendRuns : v12.wf = true ∧ b2.wf = true ∧ bare.pending = [] := by decide
theorem test_witness_commandFormsRun : v12.wf = true ∧ b2.wf = true ∧ bare.pending = [] := by decide
theorem test_witness_sendReachesTheReceiver :
    v12.wf = true ∧ bare.pending = [] ∧ 0 < v12.parameterCount ∧ 14 < v12.parameterCount := by decide
theorem test_witness_bufferHoldsCommand :
    v12.wf = true ∧ bare.pending = [] ∧ 0 < v12.parameterCount ∧ 14 < v12.parameterCount := by decide
theorem test_witness_sendDuration : c3.wf = true ∧ v12.wf = true ∧ bare.pending = [] := by decide
theorem test_witness_illFormedCommandRefused : tooMany.wf = false ∧ tooFew.wf = false ∧
    AttachConfig.wf { config with onOverride := some [a1, tooMany] } = false ∧
    bare.busy = false ∧ bare.life = .detached := by decide
theorem test_witness_playRuns : liveOff.pending = [] ∧ liveOff.handle.onSeq.length = 2 := by decide
theorem test_witness_playReachesTheReceiver :
    liveOff.pending = [] ∧ liveOff.handle.onSeq.length = 2 := by decide
theorem test_witness_setPowerOnRuns : liveOff.pending = [] ∧ liveOff.handle.power = .off := by decide
theorem test_witness_setPowerOffRuns : liveOn.pending = [] ∧ liveOn.handle.power = .on := by decide
theorem test_witness_setPowerToCurrentStateRefused :
    liveOn.handle.power = .on ∧ liveOff.handle.power = .off := by decide
theorem test_witness_transitionOrder :
    liveOff.pending = [] ∧ liveOff.handle.power = .off ∧
      liveOn.pending = [] ∧ liveOn.handle.power = .on := by decide
theorem test_witness_powerWrittenLast :
    (fine liveOff).pending = [] ∧ (fine liveOff).stepwise = true ∧ (fine liveOff).handle.power = .off ∧
    (fine liveOn).pending = [] ∧ (fine liveOn).stepwise = true ∧ (fine liveOn).handle.power = .on := by decide
theorem test_witness_transitionDurations :
    liveOff.pending = [] ∧ liveOff.handle.power = .off ∧
      liveOn.pending = [] ∧ liveOn.handle.power = .on := by decide
theorem test_witness_updateRuns : liveOn.pending = [] ∧ liveOff.pending = [] := ⟨rfl, rfl⟩

theorem ready_on : Ready liveOn := ⟨rfl, rfl, rfl⟩
theorem ready_off : Ready liveOff := ⟨rfl, rfl, rfl⟩

theorem test_witness_updateStatusRuns : Ready liveOn ∧ Ready liveOff := ⟨ready_on, ready_off⟩
theorem test_witness_getCurrentBrightnessRuns :
    (Ready liveOn ∧ liveOn.handle.power = .on) ∧ (Ready liveOff ∧ liveOff.handle.power = .off) ∧
    ({ liveOn with busy := true }.busy = true ∨ liveOn.life = .detached) ∧
    (bare.busy = true ∨ bare.life = .detached) :=
  ⟨⟨ready_on, rfl⟩, ⟨ready_off, rfl⟩, .inl rfl, .inr rfl⟩
theorem test_witness_brightnessReadBack : Ready liveOn ∧ Ready liveOff := ⟨ready_on, ready_off⟩
theorem test_witness_oneTransitionOneBrightness : Ready liveOff ∧ liveOff.handle.power = .off :=
  ⟨ready_off, rfl⟩
theorem test_witness_operationDurations :
    (Ready liveOn ∧ liveOn.handle.power = .on) ∧
    (Ready liveOff ∧ liveOff.handle.power = .off ∧ liveOff.params.suspendWhenOff = .skip) ∧
    (Ready { liveOff with params := { params with suspendWhenOff := .replay } } ∧
      { liveOff with params := { params with suspendWhenOff := .replay } }.params.suspendWhenOff = .replay) :=
  ⟨⟨ready_on, rfl⟩, ⟨ready_off, rfl, rfl⟩, ⟨rfl, rfl, rfl⟩, rfl⟩
theorem test_witness_attachRuns :
    bare.life = .detached ∧ bare.busy = false ∧ bare.pending = [] ∧
    Chosen config.onOverride bare.params.defaultOnSeq [⟨a1, rfl⟩, ⟨b2, rfl⟩] ∧
    Chosen config.offOverride bare.params.defaultOffSeq [⟨c3, rfl⟩] ∧
    config.claimable = ⟨true, true, true, true⟩ := ⟨rfl, rfl, rfl, rfl, rfl, rfl⟩
/-- With both regulators absent and no override: the defaults are chosen. -/
theorem test_witness_attachedInitialState :
    bare.life = .detached ∧ bare.busy = false ∧ bare.pending = [] ∧
    Chosen none bare.params.defaultOnSeq [] ∧ Chosen none bare.params.defaultOffSeq [] ∧
    { config with onOverride := none, offOverride := none, found := ⟨false, false⟩ }.claimable =
      ⟨true, true, true, true⟩ ∧
    { config with onOverride := none, offOverride := none, found := ⟨false, false⟩ }.found =
      ⟨false, false⟩ := ⟨rfl, rfl, rfl, rfl, rfl, rfl, rfl⟩
/-- The first line and the last, with both policies. -/
theorem test_witness_attachRollsBack :
    bare.life = .detached ∧ bare.busy = false ∧ bare.pending = [] ∧ config.wf = true ∧
    bare.owned = ⟨false, false, false, false⟩ ∧ bare.dirOut = ⟨false, false, false, false⟩ ∧
    ((∀ m ∈ claimedBefore .cs, getLine (⟨false, true, true, true⟩ : Lines Bool) m = true) ∧
      getLine (⟨false, true, true, true⟩ : Lines Bool) .cs = false) ∧
    ((∀ m ∈ claimedBefore .rst, getLine (⟨true, true, true, false⟩ : Lines Bool) m = true) ∧
      getLine (⟨true, true, true, false⟩ : Lines Bool) .rst = false) ∧
    bare.params.dirOutPolicy = .afterAllClaims ∧
    { bare with params := { params with dirOutPolicy := .afterEachClaim } }.params.dirOutPolicy =
      .afterEachClaim ∧
    Line.rst ∉ claimedBefore .rst := by decide
theorem test_witness_detachRuns : Ready liveOn ∧ Ready liveOff := ⟨ready_on, ready_off⟩
theorem test_witness_suspendRuns : Ready liveOn ∧ Ready liveOff := ⟨ready_on, ready_off⟩
theorem test_witness_resumeRuns : Ready liveOn ∧ Ready liveOff := ⟨ready_on, ready_off⟩
theorem test_witness_suspendResumeRestores :
    Ready liveOn ∧ liveOn.handle.power = .on ∧ liveOn.device = ⟨0x80#8, false, false⟩ :=
  ⟨ready_on, rfl, rfl⟩
theorem test_witness_lifecycleGating :
    (Instr.attach config).external = true ∧ (Instr.attach config).wf = true ∧
    Instr.resume.external = true ∧ Instr.resume.wf = true ∧ (∀ cfg, Instr.resume ≠ .attach cfg) ∧
    { liveOn with busy := true }.busy = true ∧ liveOn.busy = false ∧ liveOn.life = .attached ∧
    bare.busy = false ∧ bare.life = .detached :=
  ⟨rfl, rfl, rfl, rfl, fun _ h => Instr.noConfusion h, rfl, rfl, rfl, rfl, rfl⟩
theorem test_witness_stepRunsTheRequest :
    (hostAsks liveOn [10]).pending = [] ∧ (hostAsks liveOn [10]).requests = ⟨.host, .op, [10]⟩ :: [] ∧
    decode .op [10] = .ok .suspend ∧ Instr.suspend.external = true ∧
    (blockAsks liveOff [3]).requests = ⟨.block, .op, [3]⟩ :: [] ∧ decode .op [3] = .ok .setPowerOn :=
  ⟨rfl, rfl, rfl, rfl, rfl, rfl⟩
theorem test_witness_placedWordRuns :
    decodeTableWord 8 0b0111 = some .getCurrentBrightness ∧ decodeTableWord 8 0b0011 = some .setPowerOn :=
  ⟨rfl, rfl⟩
theorem test_witness_hostMayNotInvokeInternal :
    (hostAsks liveOn [4]).pending = [] ∧ (hostAsks liveOn [4]).requests = ⟨.host, .op, [4]⟩ :: [] ∧
    decode .op [4] = .ok .setPowerOff ∧ Instr.setPowerOff.external = false := ⟨rfl, rfl, rfl, rfl⟩
theorem test_witness_stepContinuesInFlight :
    { fine liveOn with pending := [hold, Micro.setWIdx 0#5] }.pending = hold :: [Micro.setWIdx 0#5] ∧
    hold = Micro.emit .h ∧ (∀ e, Micro.setWIdx 0#5 ≠ .emit e) ∧
    liveOn.pending = [] ∧ liveOn.requests = [] :=
  ⟨rfl, rfl, fun _ h => Micro.noConfusion h, rfl, rfl⟩
theorem test_witness_wholeOperationInOneStep : liveOff.stepwise = false ∧ liveOff.pending = [] ∧
    (∃ t, exec .getCurrentBrightness liveOff = .next t) ∧ (∃ t, exec .setPowerOn liveOff = .next t) :=
  ⟨rfl, rfl, ⟨_, rfl⟩, ⟨_, rfl⟩⟩
theorem test_witness_stepwiseReachesTheSameState : (fine liveOn).stepwise = true ∧
    (fine liveOn).pending = [] ∧ (∃ t, exec .suspend (fine liveOn) = .next t) ∧
    exec .setPowerOn (fine liveOn) = .refused (.powerAlreadyThere .on) := ⟨rfl, rfl, ⟨_, rfl⟩, rfl⟩
/-- The first state after acceptance, in flight, and an instruction asked for meanwhile. -/
theorem test_witness_busyUntilReturn : Instr.resume.external = true ∧ (fine liveOn).stepwise = true ∧
    (fine liveOn).pending = [] ∧ (∃ t, exec .resume (fine liveOn) = .next t ∧ 0 < t.pending.length) ∧
    Instr.detach.external = true := by
  refine ⟨rfl, rfl, rfl, ⟨_, rfl, ?_⟩, rfl⟩
  decide +kernel
theorem test_witness_storeIsReadOnly : (∃ t, step (hostAsks liveOn [7]) = .next t) ∧
    liveOn.pending = [] ∧ liveOn.life = .attached ∧
    (∃ t, exec .getCurrentBrightness liveOn = .next t ∧ t.finish.life = .attached) :=
  ⟨⟨_, rfl⟩, rfl, rfl, ⟨_, rfl, rfl⟩⟩
theorem test_witness_traceOnlyGrows : ∃ t, step (hostAsks liveOn [11]) = .next t := ⟨_, rfl⟩
theorem test_witness_latchesFollowTheTrace : liveOff.pending = [] ∧
    (∃ t, exec .setPowerOn liveOff = .next t ∧ getLine t.finish.line .rst ≠ getLine liveOff.line .rst ∧
      getRail t.finish.railEn .vci ≠ getRail liveOff.railEn .vci) := by
  refine ⟨rfl, _, rfl, ?_⟩
  decide +kernel

/-- A block as it stands after an attach that found both regulators (V66), with the host's next requests. -/
def quiet : State :=
  { liveOn with
    line := ⟨true, true, false, true⟩
    railEn := ⟨true, true⟩
    work :=
      { cb := { opcode := 0x51#8, count := 1#4, param := (Vector.replicate 15 0#8).set 0 0x80#8, postDelay := 0 }
        shr := 0x180#9
        bitIdx := 0#4
        wIdx := 1#5
        sp := ⟨.onSeq, 2⟩ }
    trace := claimEvents params ++ [.w .rst false, .h, .rail .vci true, .h, .rail .vdd3 true, .h, .w .rst true,
      .s 10]
    requests := [⟨.host, .op, [10]⟩] }

theorem quiet_blockInv : BlockInv quiet := by
  refine ⟨?_, ?_⟩
  · intro r h
    cases h with
    | head => rfl
    | tail _ h => cases h
  · refine ⟨rfl, ?_, ?_, fun _ => ⟨rfl, rfl, rfl⟩, ?_, ?_, fun _ _ => ⟨rfl, rfl, rfl⟩⟩
    · intro _ l; cases l <;> exact ⟨rfl, rfl⟩
    · intro h; cases h
    · intro _ _
      refine ⟨rfl, ?_, rfl, rfl, rfl, rfl, rfl, rfl⟩
      intro r _; cases r <;> rfl
    · intro _ h; cases h

theorem test_witness_blockInvKept : BlockInv quiet ∧ ∃ t, step quiet = .next t :=
  ⟨quiet_blockInv, _, rfl⟩
theorem test_witness_hazardInvKept : HazardInv quiet ∧ ∃ t, step quiet = .next t := by
  refine ⟨⟨quiet_blockInv, rfl, ?_⟩, _, rfl⟩
  refine ⟨by decide +kernel, by decide +kernel, ?_, fun _ _ => by decide +kernel, ?_, fun _ => by decide +kernel⟩
  · intro l; cases l <;> decide +kernel
  · intro _ h; cases h
theorem test_witness_wholeFramesKept : BlockInv quiet ∧ WholeFrames quiet.finish ∧
    ∃ t, step quiet = .next t := by
  refine ⟨quiet_blockInv, ⟨?_, by decide +kernel⟩, _, rfl⟩
  have h : decodeTrace quiet.params quiet.trace = [] := by decide +kernel
  intro x hx
  rw [show quiet.finish = quiet from rfl, h] at hx
  cases hx

end Sys2Proof.Tests
end

section
/-! SUPPORT. What an instruction that answers a next state has done: it has started one list of steps. The
growth of the trace (O50) follows from the events of those steps. -/

namespace Sys2Proof.Machine

/-! ### An answered instruction has started a list of steps -/

theorem runInternal_eq_next {s t : State} {ms : List Micro} (h : runInternal s ms = .next t) :
    ∃ ms', t = s.start ms' :=
  ⟨ms, (Host.Outcome.next.inj h).symm⟩

/-- Of the three answers of the admission test only acceptance is a next state (R205). -/
theorem acceptAttached_eq_next {s t : State} {ms : List Micro} {r : Result}
    (h : acceptAttached s ms r = .next t) : ∃ ms', t = State.start { s with busy := true } ms' := by
  rcases acceptAttached_cases s ms r with ⟨-, hr⟩ | ⟨-, -, hr⟩ | ⟨-, -, ha⟩
  · cases hr.symm.trans h
  · cases hr.symm.trans h
  · exact ⟨ms ++ [.ret r], (Host.Outcome.next.inj (ha.symm.trans h)).symm⟩

theorem execAttach_eq_next {cfg : AttachConfig} {s t : State} (h : execAttach cfg s = .next t) :
    ∃ ms, t = State.start { s with busy := true } ms := by
  unfold execAttach at h
  split at h
  · cases h
  · split at h
    · cases h
    · split at h
      · exact ⟨_, (Host.Outcome.next.inj h).symm⟩
      · cases h

theorem execSend_eq_next {c : CommandRec} {s t : State} (h : execSend c s = .next t) :
    ∃ ms, t = s.start ms := by
  unfold execSend at h
  split at h
  · exact runInternal_eq_next h
  · cases h

theorem execSetPowerOn_eq_next {s t : State} (h : execSetPowerOn s = .next t) :
    ∃ ms, t = s.start ms := by
  unfold execSetPowerOn at h
  split at h
  · exact runInternal_eq_next h
  · cases h

theorem execSetPowerOff_eq_next {s t : State} (h : execSetPowerOff s = .next t) :
    ∃ ms, t = s.start ms := by
  unfold execSetPowerOff at h
  split at h
  · exact runInternal_eq_next h
  · cases h

/-- Whatever the instruction, a next state is the old one with a list of steps started; `BUSY` is set
before it exactly for an external operation (R36, R84). -/
theorem exec_eq_next {i : Instr} {s t : State} (h : exec i s = .next t) :
    ∃ ms, t = State.start { s with busy := i.external || s.busy } ms := by
  cases i with
  | cword b => exact runInternal_eq_next h
  | pword b => exact runInternal_eq_next h
  | cmd c => exact execSend_eq_next (c := c) h
  | setbrt b => exact runInternal_eq_next h
  | transmitWord w => exact runInternal_eq_next h
  | send c => exact execSend_eq_next h
  | play q => exact runInternal_eq_next h
  | setPowerOn => exact execSetPowerOn_eq_next h
  | setPowerOff => exact execSetPowerOff_eq_next h
  | update b bl su => exact runInternal_eq_next h
  | updateStatus b bl su => exact acceptAttached_eq_next h
  | getCurrentBrightness => exact acceptAttached_eq_next h
  | attach cfg => exact execAttach_eq_next h
  | detach => exact acceptAttached_eq_next h
  | suspend => exact acceptAttached_eq_next h
  | resume => exact acceptAttached_eq_next h

/-! ### The trace only grows (R38) -/

/-- One step of the control state appends its event, if it has one. -/
theorem perform_trace (m : Micro) (s : State) : (m.perform s).trace = s.trace ++ microEvents [m] :=
  runMicros_trace [m] s

/-- Starting an operation appends the events of all its steps, or, one event a step, none yet. -/
theorem start_trace (s : State) (ms : List Micro) :
    (s.start ms).trace = s.trace ++ if s.stepwise then [] else microEvents ms := by
  unfold State.start
  split
  · exact (List.append_nil _).symm
  · exact runMicros_trace ms s

theorem exec_trace_grows {i : Instr} {s t : State} (h : exec i s = .next t) :
    ∃ e, t.trace = s.trace ++ e := by
  obtain ⟨ms, rfl⟩ := exec_eq_next h
  exact ⟨_, start_trace _ ms⟩

theorem step_trace_grows {s t : State} (h : step s = .next t) : ∃ e, t.trace = s.trace ++ e := by
  rcases step_cases h with ⟨m, ms, -, rfl⟩ | ⟨-, -, rfl⟩ | ⟨r, rest, i, -, -, -, hexec⟩
  · exact ⟨_, perform_trace m _⟩
  · exact ⟨[], (List.append_nil _).symm⟩
  · exact exec_trace_grows (s := { s with requests := rest }) hexec

/-- Settles O50: a step performs one step in flight, rests, or starts an instruction's steps, and each
appends to the trace. -/
theorem traceOnlyGrows : Obligations.TraceOnlyGrows :=
  ⟨rfl, fun _ _ => step_trace_grows⟩

end Sys2Proof.Machine
end

section
/-! SUPPORT. The state the steps of one transmitted word lead to (R100), put together from its parts: a
drive, a hold, a run of bits, the hold of D2. The statement about TRANSMIT_WORD (O8) follows. -/

namespace Sys2Proof.Machine

open Sys2Proof.Claims

/-! ### The steps of a word: drive, hold, `SHR`, `BITIDX` (R9, R22) -/

theorem perform_drive (l : Line) (v : Level) (s : State) :
    (drive l v).perform s = { s with line := setLine s.line l v, trace := s.trace ++ [.w l v] } := rfl

theorem perform_hold (s : State) :
    hold.perform s = { s with trace := s.trace ++ [.h] } := rfl

theorem perform_setShr (w : Word9) (s : State) :
    (Micro.setShr w).perform s = { s with work := { s.work with shr := w } } := rfl

theorem perform_setBitIdx (i : BitVec 4) (s : State) :
    (Micro.setBitIdx i).perform s = { s with work := { s.work with bitIdx := i } } := rfl

/-! ### A run of bits (R100) -/

/-- The state after the bits `is`, then bit `i`, of `w`: the clock is high, the data line holds bit `i`. -/
def afterBits (s : State) (w : Word9) (is : List Nat) (i : Nat) : State :=
  { s with
    line := { s.line with scl := true, sda := w.getLsbD i }
    work := { s.work with bitIdx := BitVec.ofNat 4 i }
    trace := s.trace ++ (is ++ [i]).flatMap (bitEvents w) }

theorem runMicros_bitSteps (w : Word9) (i : Nat) (s : State) :
    runMicros (bitSteps w i) s = afterBits s w [] i := by
  simp [bitSteps, afterBits, bitEvents, perform_setBitIdx, perform_drive, perform_hold, setLine]

/-- Of the bits before the last only their events stay. -/
theorem afterBits_afterBits (s : State) (w : Word9) (is : List Nat) (i j : Nat) :
    afterBits (afterBits s w [] j) w is i = afterBits s w (j :: is) i := by
  simp [afterBits]

theorem runMicros_flatMap_bitSteps (w : Word9) (is : List Nat) (i : Nat) (s : State) :
    runMicros ((is ++ [i]).flatMap (bitSteps w)) s = afterBits s w is i := by
  induction is generalizing s with
  | nil => simpa using runMicros_bitSteps w i s
  | cons j js ih =>
    rw [List.cons_append, List.flatMap_cons, runMicros_append, runMicros_bitSteps, ih,
      afterBits_afterBits]

/-! ### A whole word (R100) -/

/-- The hold after the chip-select assertion is at most one event more (R101, D2). -/
theorem runMicros_csHold (p : Params) (s : State) :
    runMicros (csHold p) s =
      { s with trace := s.trace ++ if p.holdAfterCsAssert then [.h] else [] } := by
  cases hp : p.holdAfterCsAssert <;> simp [csHold, hp, perform_hold]

/-- The steps of a word lead to the state R100 and R103 describe. -/
theorem runMicros_wordSteps (w : Word9) (s : State) :
    runMicros (wordSteps s.params w) s = afterWord s w := by
  have hbits : ([8, 7, 6, 5, 4, 3, 2, 1, 0] : List Nat) = [8, 7, 6, 5, 4, 3, 2, 1] ++ [0] := rfl
  simp only [wordSteps, runMicros_append, runMicros_csHold, hbits, runMicros_flatMap_bitSteps]
  simp [afterBits, afterWord, wordEvents, perform_setShr, perform_drive, perform_hold, setLine]

/-- An operation that transmits one word answers a next state and finishes as R100 says. -/
theorem runInternal_wordSteps {s : State} (h : s.pending = []) (w : Word9) :
    ∃ t, runInternal s (wordSteps s.params w) = .next t ∧ t.finish = afterWord s w := by
  rw [← runMicros_wordSteps w s]
  exact runInternal_next h _

theorem exec_transmitWord (w : Word9) (s : State) :
    exec (.transmitWord w) s = runInternal s (wordSteps s.params w) := rfl

/-- Settles O8: TRANSMIT_WORD runs the steps of its word, and these lead to `afterWord`. -/
theorem transmitWordRuns : Obligations.TransmitWordRuns := by
  intro w s h
  rw [exec_transmitWord]
  exact runInternal_wordSteps h w

end Sys2Proof.Machine
end

section
/-! SUPPORT. The state the steps of one Command lead to (R110): the buffer loaded, the words sent one after
another with `WIDX` counting the parameters, the settle delay. The statement about SEND (O14) follows. -/

namespace Sys2Proof.Machine

open Sys2Proof.Claims

/-! ### The steps of a Command that are no word: `CB`, `WIDX`, the delay (R20, R22, R113) -/

theorem perform_loadCb (c : Command) (s : State) :
    (Micro.loadCb c).perform s =
      { s with work := { s.work with cb := loadBuffer s.work.cb c } } := rfl

theorem perform_setWIdx (i : BitVec 5) (s : State) :
    (Micro.setWIdx i).perform s = { s with work := { s.work with wIdx := i } } := rfl

theorem perform_sleepMs (n : Nat) (s : State) :
    (sleepMs n).perform s = { s with trace := s.trace ++ [.s n] } := rfl

/-- The settle delay is one event, and none at all when it is 0 (R110, R113). -/
theorem runMicros_delaySteps (n : Nat) (s : State) :
    runMicros (delaySteps n) s = { s with trace := s.trace ++ if n = 0 then [] else [.s n] } := by
  by_cases hn : n = 0 <;> simp [delaySteps, hn, perform_sleepMs]

/-! ### A run of words (R110) -/

/-- The state after the words `ws` of a Command, of which there is at least the opcode word: the last one
is in `SHR`, and `WIDX` counts those after the first. -/
def afterWords (s : State) (ws : List Word9) : State :=
  { s with
    line := { s.line with cs := csOff s.params, scl := true, sda := (ws.getLastD 0#9).getLsbD 0 }
    work :=
      { s.work with
        shr := ws.getLastD 0#9
        bitIdx := 0#4
        wIdx := BitVec.ofNat 5 (ws.length - 1) }
    trace := s.trace ++ ws.flatMap (wordEvents s.params) }

@[simp] theorem afterWords_params (s : State) (ws : List Word9) :
    (afterWords s ws).params = s.params := rfl

/-- A word of a Command is sent with `WIDX` set just before it (R110). -/
theorem runMicros_setWIdx_wordSteps (i : BitVec 5) (w : Word9) (s : State) :
    runMicros (.setWIdx i :: wordSteps s.params w) s = afterWord ((Micro.setWIdx i).perform s) w := by
  rw [runMicros_cons, ← runMicros_wordSteps, perform_setWIdx_params]

/-- The opcode word is sent with `WIDX = 0`. -/
theorem runMicros_opcodeWord (w : Word9) (s : State) :
    runMicros (.setWIdx 0#5 :: wordSteps s.params w) s = afterWords s [w] := by
  rw [runMicros_setWIdx_wordSteps]
  simp [afterWord, afterWords, perform_setWIdx]

/-- One more word: of those before it only their events stay. -/
theorem runMicros_nextWord (ws : List Word9) (w : Word9) (s : State) :
    runMicros (.setWIdx (BitVec.ofNat 5 ws.length) :: wordSteps s.params w) (afterWords s ws) =
      afterWords s (ws ++ [w]) := by
  rw [← afterWords_params s ws, runMicros_setWIdx_wordSteps]
  simp [afterWord, afterWords, perform_setWIdx]

/-- The parameter words from word index `ws.length` on follow the words `ws` already sent. -/
theorem runMicros_paramSteps (bs : List Byte) (ws : List Word9) (s : State) :
    runMicros (paramSteps s.params ws.length bs) (afterWords s ws) =
      afterWords s (ws ++ bs.map pwordBits) := by
  induction bs generalizing ws with
  | nil => simp [paramSteps]
  | cons b bs ih =>
    have hrest := ih (ws ++ [pwordBits b])
    rw [List.length_append, List.length_singleton, List.append_assoc] at hrest
    rw [paramSteps, runMicros_append, runMicros_nextWord, hrest, List.map_cons,
      List.singleton_append]

/-! ### A whole Command (R110) -/

/-- `send(c)` ends after the words of `c`, with the buffer loaded before them and the delay after them. -/
theorem afterSend_eq (s : State) (c : Command) :
    afterSend s c =
      runMicros (delaySteps c.1.postDelay) (afterWords ((Micro.loadCb c).perform s) (wordsOf c)) := by
  have hcount : (wordsOf c).length - 1 = c.1.parameterCount := by simp [wordsOf, sentParams_length]
  simp [runMicros_delaySteps, afterSend, afterWords, perform_loadCb, lastWord, commandEvents, hcount]

/-- The words of a Command: the opcode word, then the parameter words (R78, R110). -/
theorem runMicros_commandWords (c : Command) (s : State) :
    runMicros (.setWIdx 0#5 :: wordSteps s.params (cwordBits c.1.opcode) ++
      paramSteps s.params 1 (sentParams c)) s = afterWords s (wordsOf c) := by
  rw [runMicros_append, runMicros_opcodeWord]
  exact runMicros_paramSteps (sentParams c) [cwordBits c.1.opcode] s

/-- The steps of a Command lead to the state R110 describes. -/
theorem runMicros_sendSteps (c : Command) (s : State) :
    runMicros (sendSteps s.params c) s = afterSend s c := by
  rw [afterSend_eq, ← runMicros_commandWords, ← runMicros_append, ← runMicros_cons,
    perform_loadCb_params]
  rfl

/-- An operation that sends one Command answers a next state and finishes as R110 says. -/
theorem runInternal_sendSteps {s : State} (h : s.pending = []) (c : Command) :
    ∃ t, runInternal s (sendSteps s.params c) = .next t ∧ t.finish = afterSend s c := by
  rw [← runMicros_sendSteps c s]
  exact runInternal_next h _

theorem exec_send (c : CommandRec) (s : State) : exec (.send c) s = execSend c s := rfl

/-- A well-formed record is a Command and is sent (R75, R110). -/
theorem execSend_of_wf {c : CommandRec} (h : c.wf = true) (s : State) :
    execSend c s = runInternal s (sendSteps s.params ⟨c, h⟩) := by
  rw [execSend, checkCommand_of_wf h]

/-- Settles O14: SEND of a well-formed record runs the steps of its Command, and these lead to
`afterSend`. -/
theorem sendRuns : Obligations.SendRuns := by
  intro c h s hs
  rw [exec_send, execSend_of_wf h]
  exact runInternal_sendSteps hs ⟨c, h⟩

end Sys2Proof.Machine
end

section
/-! SUPPORT. The state the steps of a whole sequence lead to (R120): the entries sent one after another, `SP`
moved past each once it is sent. The statement about PLAY (O20) follows. -/

namespace Sys2Proof.Machine

open Sys2Proof.Claims

/-! ### The sequence position `SP` (R24) -/

@[simp] theorem afterSend_params (s : State) (c : Command) : (afterSend s c).params = s.params := rfl

/-- `send` neither reads nor writes `SP`: of two writes of `SP` around it only the later one stays. -/
theorem perform_setSp_afterSend_perform_setSp (q r : SeqPos) (c : Command) (s : State) :
    (Micro.setSp r).perform (afterSend ((Micro.setSp q).perform s) c) =
      (Micro.setSp r).perform (afterSend s c) := rfl

/-! ### A run of entries (R65, R120) -/

/-- One entry of the loop: the Command is sent, then `SP` is set. -/
theorem runMicros_sendSteps_setSp (c : Command) (q : SeqPos) (s : State) :
    runMicros (sendSteps s.params c ++ [.setSp q]) s = (Micro.setSp q).perform (afterSend s c) := by
  rw [runMicros_append, runMicros_sendSteps, runMicros_cons, runMicros_nil]

/-- The entries `cs` from index `k` on, begun with `SP` at `k`, leave the state that sending them in order
leaves, with `SP` just past the last. -/
theorem runMicros_entries (sid : SeqId) (cs : List Command) (k : Nat) (s : State) :
    runMicros ((cs.zipIdx k).flatMap fun ck => sendSteps s.params ck.1 ++ [.setSp ⟨sid, ck.2 + 1⟩])
        ((Micro.setSp ⟨sid, k⟩).perform s) =
      (Micro.setSp ⟨sid, k + cs.length⟩).perform (cs.foldl afterSend s) := by
  induction cs generalizing k s with
  | nil => rfl
  | cons c cs ih =>
    have hentry : runMicros (sendSteps s.params c ++ [.setSp ⟨sid, k + 1⟩])
        ((Micro.setSp ⟨sid, k⟩).perform s) = (Micro.setSp ⟨sid, k + 1⟩).perform (afterSend s c) := by
      rw [← perform_setSp_afterSend_perform_setSp ⟨sid, k⟩, ← runMicros_sendSteps_setSp,
        perform_setSp_params]
    have hrest := ih (k + 1) (afterSend s c)
    rw [afterSend_params, Nat.add_right_comm] at hrest
    rw [List.zipIdx_cons, List.flatMap_cons, runMicros_append, hentry, hrest, List.foldl_cons,
      List.length_cons, Nat.add_assoc]

/-! ### A whole sequence (R120) -/

/-- `play(sid)` ends as sending its entries in order does, with `SP` at the length of the sequence. -/
theorem afterPlay_eq (s : State) (sid : SeqId) :
    afterPlay s sid = (Micro.setSp ⟨sid, (activeSeq s.handle sid).length⟩).perform
      ((activeSeq s.handle sid).foldl afterSend s) := rfl

/-- The steps of a sequence lead to the state R120 describes. -/
theorem runMicros_playSteps (sid : SeqId) (s : State) :
    runMicros (playSteps s.params s.handle sid) s = afterPlay s sid := by
  rw [playSteps_eq, runMicros_cons, runMicros_entries, Nat.zero_add, afterPlay_eq]

theorem exec_play (sid : SeqId) (s : State) :
    exec (.play sid) s = runInternal s (playSteps s.params s.handle sid) := rfl

/-- Settles O20: PLAY runs the steps of its sequence, and these lead to `afterPlay`. -/
theorem playRuns : Obligations.PlayRuns := by
  intro sid s h
  rw [exec_play, ← runMicros_playSteps]
  exact runInternal_next h _

end Sys2Proof.Machine
end

section
/-! SUPPORT. The states the two power transitions lead to (R131, R133), each put together from the sequence it
plays and the steps around it. The statements about SET_POWER (O22, O23) follow, and that about the order of
their events (O25). -/

namespace Sys2Proof.Machine

open Sys2Proof.Claims Sys2Proof.Safety

/-! ### The steps of a transition that are no sequence: the rail calls, `POWER` (R26, R136) -/

theorem perform_setPower (p : Power) (s : State) :
    (Micro.setPower p).perform s = { s with handle := { s.handle with power := p } } := rfl

/-- The rail latches after a call on rail `r`, skipped when it is absent. -/
def railAfter (h : PanelHandle) (r : Rail) (e : Level) (x : Rails Level) : Rails Level :=
  if getRail h.present r then setRail x r e else x

theorem railAfter_vdd3_vci (h : PanelHandle) (e : Level) (x : Rails Level) :
    railAfter h .vdd3 e (railAfter h .vci e x) = railsAfter h e x := by
  cases hc : h.present.vci <;> cases hd : h.present.vdd3 <;>
    simp [railAfter, railsAfter, getRail, setRail, hc, hd]

theorem railAfter_comm (h : PanelHandle) (e : Level) (x : Rails Level) :
    railAfter h .vci e (railAfter h .vdd3 e x) = railAfter h .vdd3 e (railAfter h .vci e x) := by
  unfold railAfter
  split <;> split <;> rfl

/-- A rail call sets the rail's latch and is one event; for an absent rail it is neither (R136). -/
theorem runMicros_railSteps (h : PanelHandle) (r : Rail) (e : Level) (s : State) :
    runMicros (railSteps h r e) s =
      { s with railEn := railAfter h r e s.railEn, trace := s.trace ++ railEvents h r e } := by
  cases hr : getRail h.present r with
  | false => simp [railSteps, railAfter, railEvents, hr]
  | true => simp [railSteps, railAfter, railEvents, hr, rail, emitEvent, eventEffect]

/-! ### The way up (R131) -/

/-- The steps of `set_power(ON)` before its sequence. -/
def riseSteps (h : PanelHandle) : List Micro :=
  [drive .rst rstOn, hold] ++ railSteps h .vci true ++ [hold] ++ railSteps h .vdd3 true ++ [hold] ++
    [drive .rst rstOff, sleepMs Config.settleMs]

/-- The state they lead to: the present rails are enabled and reset is released. -/
def afterRise (s : State) : State :=
  { s with
    line := { s.line with rst := true }
    railEn := railsAfter s.handle true s.railEn
    trace := s.trace ++ riseEvents s.handle }

theorem powerOnSteps_eq (p : Params) (h : PanelHandle) :
    powerOnSteps p h = riseSteps h ++ playSteps p h .onSeq ++ [.setPower .on] := rfl

theorem afterPowerOn_eq (s : State) :
    afterPowerOn s = (Micro.setPower .on).perform (afterPlay (afterRise s) .onSeq) := rfl

theorem runMicros_riseSteps (s : State) : runMicros (riseSteps s.handle) s = afterRise s := by
  simp [riseSteps, afterRise, riseEvents, runMicros_append, runMicros_railSteps, perform_drive,
    perform_hold, perform_sleepMs, railAfter_vdd3_vci, setLine, rstOn, rstOff, Config.settleMs]

/-- The steps of `set_power(ON)` lead to the state R131 describes. -/
theorem runMicros_powerOnSteps (s : State) :
    runMicros (powerOnSteps s.params s.handle) s = afterPowerOn s := by
  have hplay : runMicros (playSteps s.params s.handle .onSeq) (afterRise s) =
      afterPlay (afterRise s) .onSeq := runMicros_playSteps .onSeq (afterRise s)
  rw [powerOnSteps_eq, runMicros_append, runMicros_append, runMicros_riseSteps, hplay, afterPowerOn_eq,
    runMicros_cons, runMicros_nil]

theorem exec_setPowerOn (s : State) : exec .setPowerOn s = execSetPowerOn s := rfl

theorem execSetPowerOn_of_off {s : State} (h : s.handle.power = .off) :
    execSetPowerOn s = runInternal s (powerOnSteps s.params s.handle) := by
  rw [execSetPowerOn, h]

/-- Settles O22: from OFF, SET_POWER_ON runs the steps of the transition, and these lead to
`afterPowerOn`. -/
theorem setPowerOnRuns : Obligations.SetPowerOnRuns := by
  intro s hs hoff
  rw [exec_setPowerOn, execSetPowerOn_of_off hoff, ← runMicros_powerOnSteps]
  exact runInternal_next hs _

/-! ### The way down (R133) -/

/-- The steps of `set_power(OFF)` between its sequence and the write of `POWER`. -/
def fallSteps (h : PanelHandle) : List Micro :=
  [drive .rst rstOn] ++ railSteps h .vdd3 false ++ railSteps h .vci false

/-- The state they lead to, with the rails that the handle `h` has: reset is asserted and these rails are
disabled. -/
def afterFall (h : PanelHandle) (s : State) : State :=
  { s with
    line := { s.line with rst := false }
    railEn := railsAfter h false s.railEn
    trace := s.trace ++ fallEvents h }

theorem powerOffSteps_eq (p : Params) (h : PanelHandle) :
    powerOffSteps p h = playSteps p h .offSeq ++ fallSteps h ++ [.setPower .off] := by
  simp [powerOffSteps, fallSteps]

theorem afterPowerOff_eq (s : State) :
    afterPowerOff s = (Micro.setPower .off).perform (afterFall s.handle (afterPlay s .offSeq)) := rfl

theorem runMicros_fallSteps (h : PanelHandle) (s : State) :
    runMicros (fallSteps h) s = afterFall h s := by
  simp [fallSteps, afterFall, fallEvents, runMicros_append, runMicros_railSteps, perform_drive,
    railAfter_comm, railAfter_vdd3_vci, setLine, rstOn]

/-- The steps of `set_power(OFF)` lead to the state R133 describes. -/
theorem runMicros_powerOffSteps (s : State) :
    runMicros (powerOffSteps s.params s.handle) s = afterPowerOff s := by
  rw [powerOffSteps_eq, runMicros_append, runMicros_append, runMicros_playSteps, runMicros_fallSteps,
    afterPowerOff_eq, runMicros_cons, runMicros_nil]

theorem exec_setPowerOff (s : State) : exec .setPowerOff s = execSetPowerOff s := rfl

theorem execSetPowerOff_of_on {s : State} (h : s.handle.power = .on) :
    execSetPowerOff s = runInternal s (powerOffSteps s.params s.handle) := by
  rw [execSetPowerOff, h]

/-- Settles O23: from ON, SET_POWER_OFF runs the steps of the transition, and these lead to
`afterPowerOff`. -/
theorem setPowerOffRuns : Obligations.SetPowerOffRuns := by
  intro s hs hon
  rw [exec_setPowerOff, execSetPowerOff_of_on hon, ← runMicros_powerOffSteps]
  exact runInternal_next hs _

/-! ### The trace of a sequence and of the two transitions (R120, R131, R133) -/

theorem foldl_afterSend_params (cs : List Command) (s : State) :
    (cs.foldl afterSend s).params = s.params := by
  induction cs generalizing s with
  | nil => rfl
  | cons c cs ih => exact ih (afterSend s c)

theorem foldl_afterSend_trace (cs : List Command) (s : State) :
    (cs.foldl afterSend s).trace = s.trace ++ sequenceEvents s.params cs := by
  induction cs generalizing s with
  | nil => exact (List.append_nil _).symm
  | cons c cs ih =>
    rw [List.foldl_cons, ih, afterSend_params, sequenceEvents, sequenceEvents, List.flatMap_cons,
      ← List.append_assoc]
    rfl

theorem afterPlay_trace (s : State) (sid : SeqId) :
    (afterPlay s sid).trace = s.trace ++ sequenceEvents s.params (activeSeq s.handle sid) :=
  foldl_afterSend_trace _ s

theorem afterPowerOn_trace (s : State) :
    (afterPowerOn s).trace = s.trace ++ powerOnEvents s.params s.handle := by
  have hplay : (afterPowerOn s).trace = _ := afterPlay_trace (afterRise s) .onSeq
  rw [hplay, powerOnEvents, ← List.append_assoc]
  rfl

theorem afterPowerOff_trace (s : State) :
    (afterPowerOff s).trace = s.trace ++ powerOffEvents s.params s.handle := by
  have hfall : (afterPowerOff s).trace = (afterPlay s .offSeq).trace ++ fallEvents s.handle := rfl
  rw [hfall, afterPlay_trace, powerOffEvents, List.append_assoc]
  rfl

theorem emits_setPowerOn {s : State} (hs : s.pending = []) (hoff : s.handle.power = .off) :
    Emits .setPowerOn s (powerOnEvents s.params s.handle) := by
  obtain ⟨t, ht, hfin⟩ := setPowerOnRuns s hs hoff
  exact ⟨t, ht, by rw [hfin, afterPowerOn_trace]⟩

theorem emits_setPowerOff {s : State} (hs : s.pending = []) (hon : s.handle.power = .on) :
    Emits .setPowerOff s (powerOffEvents s.params s.handle) := by
  obtain ⟨t, ht, hfin⟩ := setPowerOffRuns s hs hon
  exact ⟨t, ht, by rw [hfin, afterPowerOff_trace]⟩

/-! ### What a sequence emits (R100, R110, R120) -/

/-- An event of the words and delays of a Command: a write of a serial line, a hold or a sleep. -/
def IsWordOrDelay (x : Event) : Prop := isSerial x = true ∨ x = .h ∨ ∃ n, x = .s n

theorem IsWordOrDelay.not_rail {x : Event} (h : IsWordOrDelay x) : isRail x = false := by
  rcases h with h | rfl | ⟨n, rfl⟩
  · cases x with
    | rail r e => cases h
    | _ => rfl
  · rfl
  · rfl

theorem IsWordOrDelay.ne_reset {x : Event} (h : IsWordOrDelay x) (v : Level) : x ≠ .w .rst v := by
  rintro rfl
  rcases h with h | h | ⟨n, h⟩ <;> cases h

theorem isWordOrDelay_of_mem_bitEvents {w : Word9} {i : Nat} {x : Event} (hx : x ∈ bitEvents w i) :
    IsWordOrDelay x := by
  simp only [bitEvents, List.mem_cons, List.not_mem_nil, or_false] at hx
  rcases hx with rfl | rfl | rfl | rfl | rfl | rfl <;> simp [IsWordOrDelay, isSerial]

theorem isWordOrDelay_of_mem_wordEvents {p : Params} {w : Word9} {x : Event}
    (hx : x ∈ wordEvents p w) : IsWordOrDelay x := by
  simp only [wordEvents, List.mem_append, List.mem_cons, List.not_mem_nil, or_false] at hx
  rcases hx with ((hopen | hhold) | hbits) | hclose
  · rcases hopen with rfl | rfl | rfl | rfl | rfl <;> simp [IsWordOrDelay, isSerial]
  · split at hhold
    · exact .inr (.inl (List.mem_singleton.mp hhold))
    · cases hhold
  · obtain ⟨i, hi⟩ : ∃ i, x ∈ bitEvents w i := by tauto
    exact isWordOrDelay_of_mem_bitEvents hi
  · rcases hclose with rfl | rfl <;> simp [IsWordOrDelay, isSerial]

theorem isWordOrDelay_of_mem_commandEvents {p : Params} {c : Command} {x : Event}
    (hx : x ∈ commandEvents p c) : IsWordOrDelay x := by
  rcases List.mem_append.mp hx with hword | hdelay
  · obtain ⟨w, -, hw⟩ := List.mem_flatMap.mp hword
    exact isWordOrDelay_of_mem_wordEvents hw
  · split at hdelay
    · cases hdelay
    · exact .inr (.inr ⟨_, List.mem_singleton.mp hdelay⟩)

theorem isWordOrDelay_of_mem_sequenceEvents {p : Params} {q : List Command} {x : Event}
    (hx : x ∈ sequenceEvents p q) : IsWordOrDelay x := by
  obtain ⟨c, -, hc⟩ := List.mem_flatMap.mp hx
  exact isWordOrDelay_of_mem_commandEvents hc

/-! ### What a transition emits beside its sequence (R131, R133, R136) -/

theorem mem_railEvents {h : PanelHandle} {r : Rail} {e : Level} {x : Event} :
    x ∈ railEvents h r e ↔ getRail h.present r = true ∧ x = .rail r e := by
  cases hr : getRail h.present r <;> simp [railEvents, hr]

/-- The events of the way up before the release of reset. -/
def underResetEvents (h : PanelHandle) : List Event :=
  [.w .rst false, .h] ++ railEvents h .vci true ++ [.h] ++ railEvents h .vdd3 true ++ [.h]

theorem riseEvents_eq (h : PanelHandle) :
    riseEvents h = underResetEvents h ++ .w .rst true :: [.s 10] := rfl

/-- Before the release of reset: its assertion, holds, and the enables of the present rails. -/
theorem mem_underResetEvents {h : PanelHandle} {x : Event} :
    x ∈ underResetEvents h ↔
      x = .w .rst false ∨ x = .h ∨ ∃ r, getRail h.present r = true ∧ x = .rail r true := by
  simp only [underResetEvents, List.mem_append, List.mem_cons, List.not_mem_nil, or_false,
    mem_railEvents]
  constructor
  · rintro (((((hx | hx) | hx) | hx) | hx) | hx)
    · exact .inl hx
    · exact .inr (.inl hx)
    · exact .inr (.inr ⟨.vci, hx⟩)
    · exact .inr (.inl hx)
    · exact .inr (.inr ⟨.vdd3, hx⟩)
    · exact .inr (.inl hx)
  · rintro (hx | hx | ⟨r, hx⟩)
    · simp [hx]
    · simp [hx]
    · cases r <;> simp [hx]

/-- The events of the way down after the assertion of reset. -/
def railsOffEvents (h : PanelHandle) : List Event := railEvents h .vdd3 false ++ railEvents h .vci false

theorem fallEvents_eq (h : PanelHandle) : fallEvents h = .w .rst false :: railsOffEvents h := rfl

/-- After the assertion of reset: the disables of the present rails, and nothing else. -/
theorem mem_railsOffEvents {h : PanelHandle} {x : Event} :
    x ∈ railsOffEvents h ↔ ∃ r, getRail h.present r = true ∧ x = .rail r false := by
  rw [railsOffEvents, List.mem_append, mem_railEvents, mem_railEvents]
  constructor
  · rintro (hx | hx)
    · exact ⟨.vdd3, hx⟩
    · exact ⟨.vci, hx⟩
  · rintro ⟨r, hx⟩
    cases r with
    | vci => exact .inr hx
    | vdd3 => exact .inl hx

/-! ### The order of a transition (R134) -/

theorem powerOnEvents_eq (p : Params) (h : PanelHandle) :
    powerOnEvents p h = underResetEvents h ++ .w .rst true :: .s 10 :: sequenceEvents p h.onSeq := by
  rw [powerOnEvents, riseEvents_eq, List.append_assoc]
  rfl

theorem underResetEvents_not_serial_ne_release {h : PanelHandle} {x : Event}
    (hx : x ∈ underResetEvents h) : isSerial x = false ∧ x ≠ .w .rst true := by
  rcases mem_underResetEvents.mp hx with rfl | rfl | ⟨r, -, rfl⟩ <;> simp [isSerial]

theorem rail_mem_underResetEvents {h : PanelHandle} {r : Rail} {e : Level} :
    .rail r e ∈ underResetEvents h ↔ e = true ∧ getRail h.present r = true := by
  simp [mem_underResetEvents, and_comm]

theorem rail_mem_railsOffEvents {h : PanelHandle} {r : Rail} {e : Level} :
    .rail r e ∈ railsOffEvents h ↔ e = false ∧ getRail h.present r = true := by
  simp [mem_railsOffEvents, and_comm]

/-- Settles O25: each transition's trace is split at the write of reset that R134 names, and each part holds
only the events that belong there. -/
theorem transitionOrder : Obligations.TransitionOrder := by
  intro s hs
  refine ⟨fun hoff => ?up, fun hon => ?down⟩
  case up =>
    refine ⟨underResetEvents s.handle, .s 10 :: sequenceEvents s.params s.handle.onSeq, ?_,
      fun x hx => underResetEvents_not_serial_ne_release hx,
      fun r e => rail_mem_underResetEvents, rfl, fun x hx => ?_⟩
    · rw [← powerOnEvents_eq]
      exact emits_setPowerOn hs hoff
    · rcases List.mem_cons.mp hx with rfl | hseq
      · rfl
      · exact (isWordOrDelay_of_mem_sequenceEvents hseq).not_rail
  case down =>
    refine ⟨railsOffEvents s.handle, emits_setPowerOff hs hon, fun x hx => ?_, fun x hx => ?_,
      fun r e => rail_mem_railsOffEvents⟩
    · have hword := isWordOrDelay_of_mem_sequenceEvents hx
      exact ⟨hword.not_rail, hword.ne_reset⟩
    · obtain ⟨r, -, rfl⟩ := mem_railsOffEvents.mp hx
      rfl

end Sys2Proof.Machine
end

section
/-! SUPPORT. Each reader inverted: the lists it reads a value from are those that begin with the fields written
for that value. The two round trips of the encoding (O4, O5) are the two directions of one equivalence. -/

namespace Sys2Proof

open Sys2Proof.Machine

/-! ### Single fields (R70, R74, R84) -/

theorem readNat_eq_ok {xs rest : List Nat} {x : Nat} :
    readNat xs = .ok (x, rest) ↔ xs = x :: rest := by
  cases xs <;> simp [readNat]

theorem readBits_eq_ok {n : Nat} {xs rest : List Nat} {v : BitVec n} :
    readBits n xs = .ok (v, rest) ↔ xs = v.toNat :: rest := by
  constructor
  · intro h
    obtain ⟨x, ys, hx, hv⟩ := readThen_eq_ok.mp h
    split at hv
    · next hlt =>
      cases hv
      rw [readNat_eq_ok.mp hx, BitVec.toNat_ofNat, Nat.mod_eq_of_lt hlt]
    · cases hv
  · rintro rfl
    exact readBits_toNat v rest

theorem readFlag_eq_ok {xs rest : List Nat} {b : Bool} :
    readFlag xs = .ok (b, rest) ↔ xs = flagField b :: rest := by
  constructor
  · intro h
    obtain ⟨x, ys, hx, hv⟩ := readThen_eq_ok.mp h
    split at hv <;> cases hv <;> exact readNat_eq_ok.mp hx
  · rintro rfl
    exact readFlag_flagField b rest

theorem readDone_eq_ok {α : Type} {a b : α} {xs rest : List Nat} :
    readDone a xs = .ok (b, rest) ↔ a = b ∧ xs = rest := by
  simp

/-- What a reader followed by `readDone` reads: the value is made from what the reader reads. -/
theorem readThen_readDone_eq_ok {α β : Type} {p : Reader α} {f : α → β} {xs rest : List Nat} {b : β} :
    readThen p (fun a => readDone (f a)) xs = .ok (b, rest) ↔ ∃ a, p xs = .ok (a, rest) ∧ f a = b := by
  simp [readThen_eq_ok]

/-! ### Records, sequences and overrides (R74 to R76, R31) -/

theorem readMany_eq_ok {α : Type} {p : Reader α} {w : α → List Nat} {ok : α → Prop}
    (hp : ∀ {xs rest a}, p xs = .ok (a, rest) ↔ ok a ∧ xs = w a ++ rest)
    {n : Nat} {xs rest : List Nat} {as : List α} :
    readMany p n xs = .ok (as, rest) ↔
      (∀ a ∈ as, ok a) ∧ as.length = n ∧ xs = as.flatMap w ++ rest := by
  induction n generalizing xs as with
  | zero => cases as <;> simp [readMany, eq_comm]
  | succ n ih =>
    constructor
    · intro h
      obtain ⟨a, ys, ha, has⟩ := readThen_eq_ok.mp h
      obtain ⟨bs, hbs, rfl⟩ := readThen_readDone_eq_ok.mp has
      obtain ⟨hok, rfl⟩ := hp.mp ha
      obtain ⟨hoks, rfl, rfl⟩ := ih.mp hbs
      simpa [hok] using hoks
    · rintro ⟨hok, hlen, rfl⟩
      cases as with
      | nil => cases hlen
      | cons a as =>
        have ha := hp.mpr ⟨hok a List.mem_cons_self, List.append_assoc (w a) (as.flatMap w) rest⟩
        have has := ih.mpr ⟨fun b hb => hok b (List.mem_cons_of_mem a hb), Nat.succ.inj hlen, rfl⟩
        exact readThen_eq_ok.mpr ⟨a, _, ha, readThen_readDone_eq_ok.mpr ⟨as, has, rfl⟩⟩

theorem readBytes_eq_ok {n : Nat} {xs rest : List Nat} {bs : List Byte} :
    readMany (readBits 8) n xs = .ok (bs, rest) ↔ bs.length = n ∧ xs = bs.map BitVec.toNat ++ rest := by
  have h := readMany_eq_ok (p := readBits 8) (w := fun b => [b.toNat]) (ok := fun _ => True)
    (by simp [readBits_eq_ok]) (n := n) (xs := xs) (rest := rest) (as := bs)
  simpa [List.map_eq_flatMap] using h

theorem readRecord_eq_ok {xs rest : List Nat} {c : CommandRec} :
    readRecord xs = .ok (c, rest) ↔ c.wf = true ∧ xs = recordFields c ++ rest := by
  simp only [readRecord, readThen_eq_ok, readBits_eq_ok, readNat_eq_ok, readBytes_eq_ok]
  constructor
  · rintro ⟨op, _, rfl, count, _, rfl, len, _, rfl, ps, _, ⟨rfl, rfl⟩, delay, _, rfl, h⟩
    split at h
    · next hwf =>
      cases h
      exact ⟨hwf, by simp [recordFields]⟩
    · cases h
  · rintro ⟨hwf, rfl⟩
    refine ⟨c.opcode, _, rfl, c.parameterCount, _, rfl, c.parameters.length, _, rfl, c.parameters,
      c.postDelay :: rest, ⟨rfl, by simp⟩, c.postDelay, _, rfl, ?_⟩
    simp [hwf]

theorem readSequence_eq_ok {xs rest : List Nat} {q : List CommandRec} :
    readSequence xs = .ok (q, rest) ↔ wfSequence q = true ∧ xs = sequenceFields q ++ rest := by
  simp only [readSequence, readThen_eq_ok, readNat_eq_ok, readMany_eq_ok readRecord_eq_ok]
  constructor
  · rintro ⟨n, ys, rfl, hwf, rfl, rfl⟩
    exact ⟨List.all_eq_true.mpr hwf, rfl⟩
  · rintro ⟨hwf, rfl⟩
    exact ⟨_, _, rfl, List.all_eq_true.mp hwf, rfl, rfl⟩

theorem readOverride_eq_ok {xs rest : List Nat} {o : Option (List CommandRec)} :
    readOverride xs = .ok (o, rest) ↔ wfOverride o = true ∧ xs = overrideFields o ++ rest := by
  simp only [readOverride, readThen_eq_ok, readFlag_eq_ok]
  constructor
  · rintro ⟨given, ys, rfl, h⟩
    cases given with
    | false => cases h; exact ⟨rfl, rfl⟩
    | true =>
      obtain ⟨q, hq, rfl⟩ := readThen_readDone_eq_ok.mp h
      obtain ⟨hwf, rfl⟩ := readSequence_eq_ok.mp hq
      exact ⟨hwf, rfl⟩
  · rintro ⟨hwf, rfl⟩
    cases o with
    | none => exact ⟨false, rest, rfl, rfl⟩
    | some q =>
      exact ⟨true, _, rfl, readThen_readDone_eq_ok.mpr ⟨q, readSequence_eq_ok.mpr ⟨hwf, rfl⟩, rfl⟩⟩

/-! ### Operands (R84) -/

theorem readSeqId_eq_ok {xs rest : List Nat} {q : SeqId} :
    readSeqId xs = .ok (q, rest) ↔ xs = seqField q :: rest := by
  simp only [readSeqId, readThen_readDone_eq_ok, readFlag_eq_ok]
  cases q <;> simp [seqField, flagField]

theorem readUpdate_eq_ok {f : Byte → Bool → Bool → Instr} {xs rest : List Nat} {i : Instr} :
    readUpdate f xs = .ok (i, rest) ↔
      ∃ b bl su, i = f b bl su ∧ xs = b.toNat :: flagField bl :: flagField su :: rest := by
  simp only [readUpdate, readThen_eq_ok, readBits_eq_ok, readFlag_eq_ok, readDone_eq_ok]
  constructor
  · rintro ⟨b, _, rfl, bl, _, rfl, su, _, rfl, rfl, rfl⟩
    exact ⟨b, bl, su, rfl, rfl⟩
  · rintro ⟨b, bl, su, rfl, rfl⟩
    exact ⟨b, _, rfl, bl, _, rfl, su, _, rfl, rfl, rfl⟩

/-- The fields of a configuration in the order in which they are read. -/
theorem attachFields_append (cfg : AttachConfig) (rest : List Nat) :
    attachFields cfg ++ rest =
      cfg.lineId.cs :: cfg.lineId.scl :: cfg.lineId.sda :: cfg.lineId.rst ::
        flagField cfg.found.vci :: flagField cfg.found.vdd3 ::
        (overrideFields cfg.onOverride ++ (overrideFields cfg.offOverride ++
          flagField (!cfg.claimable.cs) :: flagField (!cfg.claimable.scl) ::
          flagField (!cfg.claimable.sda) :: flagField (!cfg.claimable.rst) :: rest)) := by
  simp [attachFields]

theorem readAttach_eq_ok {xs rest : List Nat} {cfg : AttachConfig} :
    readAttach xs = .ok (cfg, rest) ↔ cfg.wf = true ∧ xs = attachFields cfg ++ rest := by
  simp only [readAttach, readThen_eq_ok, readNat_eq_ok, readFlag_eq_ok, readOverride_eq_ok,
    readDone_eq_ok, attachFields_append]
  constructor
  · rintro ⟨_, _, rfl, _, _, rfl, _, _, rfl, _, _, rfl, _, _, rfl, _, _, rfl, on, _, ⟨hon, rfl⟩,
      off, _, ⟨hoff, rfl⟩, _, _, rfl, _, _, rfl, _, _, rfl, _, _, rfl, rfl, rfl⟩
    simp [AttachConfig.wf, hon, hoff]
  · rintro ⟨hwf, rfl⟩
    obtain ⟨hon, hoff⟩ := Bool.and_eq_true_iff.mp hwf
    refine ⟨_, _, rfl, _, _, rfl, _, _, rfl, _, _, rfl, _, _, rfl, _, _, rfl, _, _, ⟨hon, rfl⟩,
      _, _, ⟨hoff, rfl⟩, _, _, rfl, _, _, rfl, _, _, rfl, _, _, rfl, ?_, rfl⟩
    simp

/-! ### Word forms (R70, R71) -/

theorem encode_decodeWord (w : Word9) : encode (decodeWord w) = (.w9, [w.toNat]) := by
  revert w; decide

theorem wordFlag_cwordBits (b : Byte) : wordFlag (cwordBits b) = false := by
  revert b; decide

theorem wordFlag_pwordBits (b : Byte) : wordFlag (pwordBits b) = true := by
  revert b; decide

theorem wordByte_cwordBits (b : Byte) : wordByte (cwordBits b) = b := by
  revert b; decide

theorem wordByte_pwordBits (b : Byte) : wordByte (pwordBits b) = b := by
  revert b; decide

theorem decodeWord_cwordBits (b : Byte) : decodeWord (cwordBits b) = .cword b := by
  simp [decodeWord, wordFlag_cwordBits, wordByte_cwordBits]

theorem decodeWord_pwordBits (b : Byte) : decodeWord (pwordBits b) = .pword b := by
  simp [decodeWord, wordFlag_pwordBits, wordByte_pwordBits]

theorem decodeWord_wf (w : Word9) : (decodeWord w).wf = true := by
  unfold decodeWord
  split <;> rfl

/-! ### Instructions (R84, R88) -/

/-- A selector and its operands are read as an instruction: it is well formed, and these are its fields. -/
theorem wf_and_encode_of_readOperation {n : Nat} {xs rest : List Nat} {i : Instr}
    (h : readOperation n xs = .ok (i, rest)) :
    i.wf = true ∧ ∃ fields, encode i = (.op, fields) ∧ n :: xs = fields ++ rest := by
  match n, h with
  | 0, h =>
    obtain ⟨w, hw, rfl⟩ := readThen_readDone_eq_ok.mp h
    rw [readBits_eq_ok.mp hw]
    exact ⟨rfl, _, rfl, rfl⟩
  | 1, h =>
    obtain ⟨c, hc, rfl⟩ := readThen_readDone_eq_ok.mp h
    obtain ⟨hwf, rfl⟩ := readRecord_eq_ok.mp hc
    exact ⟨hwf, _, rfl, rfl⟩
  | 2, h =>
    obtain ⟨q, hq, rfl⟩ := readThen_readDone_eq_ok.mp h
    rw [readSeqId_eq_ok.mp hq]
    exact ⟨rfl, _, rfl, rfl⟩
  | 3, h | 4, h | 7, h | 9, h | 10, h | 11, h =>
    obtain ⟨rfl, rfl⟩ := readDone_eq_ok.mp h
    exact ⟨rfl, _, rfl, rfl⟩
  | 5, h | 6, h =>
    obtain ⟨b, bl, su, rfl, rfl⟩ := readUpdate_eq_ok.mp h
    exact ⟨rfl, _, rfl, rfl⟩
  | 8, h =>
    obtain ⟨cfg, hc, rfl⟩ := readThen_readDone_eq_ok.mp h
    obtain ⟨hwf, rfl⟩ := readAttach_eq_ok.mp hc
    exact ⟨hwf, _, rfl, rfl⟩
  | n + 12, h => cases h

/-- The fields of a request that is read as an instruction are those written for it, in its format. -/
theorem wf_and_encode_of_readInstr {fmt : Format} {xs rest : List Nat} {i : Instr}
    (h : readInstr fmt xs = .ok (i, rest)) :
    i.wf = true ∧ ∃ fields, encode i = (fmt, fields) ∧ xs = fields ++ rest := by
  cases fmt with
  | w9 =>
    obtain ⟨w, hw, rfl⟩ := readThen_readDone_eq_ok.mp h
    exact ⟨decodeWord_wf w, _, encode_decodeWord w, readBits_eq_ok.mp hw⟩
  | cmd =>
    obtain ⟨c, hc, rfl⟩ := readThen_readDone_eq_ok.mp h
    obtain ⟨hwf, hxs⟩ := readRecord_eq_ok.mp hc
    exact ⟨hwf, _, rfl, hxs⟩
  | setbrt =>
    obtain ⟨b, hb, rfl⟩ := readThen_readDone_eq_ok.mp h
    exact ⟨rfl, _, rfl, readBits_eq_ok.mp hb⟩
  | op =>
    obtain ⟨n, ys, hn, hop⟩ := readThen_eq_ok.mp h
    rw [readNat_eq_ok.mp hn]
    exact wf_and_encode_of_readOperation hop

/-- The fields written for a well-formed instruction are read as it. -/
theorem readInstr_encode {i : Instr} (hwf : i.wf = true) (rest : List Nat) :
    readInstr (encode i).1 ((encode i).2 ++ rest) = .ok (i, rest) := by
  cases i with
  | cword b =>
    exact readThen_readDone_eq_ok.mpr ⟨_, readBits_eq_ok.mpr rfl, decodeWord_cwordBits b⟩
  | pword b =>
    exact readThen_readDone_eq_ok.mpr ⟨_, readBits_eq_ok.mpr rfl, decodeWord_pwordBits b⟩
  | cmd c => exact readThen_readDone_eq_ok.mpr ⟨c, readRecord_eq_ok.mpr ⟨hwf, rfl⟩, rfl⟩
  | setbrt b => exact readThen_readDone_eq_ok.mpr ⟨b, readBits_eq_ok.mpr rfl, rfl⟩
  | transmitWord w => exact readThen_readDone_eq_ok.mpr ⟨w, readBits_eq_ok.mpr rfl, rfl⟩
  | send c => exact readThen_readDone_eq_ok.mpr ⟨c, readRecord_eq_ok.mpr ⟨hwf, rfl⟩, rfl⟩
  | play q => exact readThen_readDone_eq_ok.mpr ⟨q, readSeqId_eq_ok.mpr rfl, rfl⟩
  | update b bl su => exact readUpdate_eq_ok.mpr ⟨b, bl, su, rfl, rfl⟩
  | updateStatus b bl su => exact readUpdate_eq_ok.mpr ⟨b, bl, su, rfl, rfl⟩
  | attach cfg => exact readThen_readDone_eq_ok.mpr ⟨cfg, readAttach_eq_ok.mpr ⟨hwf, rfl⟩, rfl⟩
  | setPowerOn | setPowerOff | getCurrentBrightness | detach | suspend | resume => rfl

theorem decode_eq_ok {fmt : Format} {fields : List Nat} {i : Instr} :
    decode fmt fields = .ok i ↔ readInstr fmt fields = .ok (i, []) := by
  unfold decode
  split
  · next h => simp [h]
  · next h => simp [h]
  · next h => simp [h]

/-- Settles O4: each reader reads the fields written for a value as that value. -/
theorem decodeOfEncode : Obligations.DecodeOfEncode := by
  intro i hwf
  have h := readInstr_encode hwf []
  rw [List.append_nil] at h
  exact decode_eq_ok.mpr h

/-- Settles O5: a reader that reads a value has read the fields written for it, and a record or an override
that is read is well formed. -/
theorem encodeOfDecode : Obligations.EncodeOfDecode := by
  intro fmt fields i h
  obtain ⟨hwf, fs, henc, hfs⟩ := wf_and_encode_of_readInstr (decode_eq_ok.mp h)
  rw [List.append_nil] at hfs
  exact ⟨hwf, by rw [henc, hfs]⟩

/-! ### The forms of a word (R71, R73, R79) -/

/-- Settles O1: each clause is a fact about one byte, checked for all of them. -/
theorem wordAssembly : Obligations.WordAssembly := by
  intro b
  refine ⟨rfl, ?_, ?_, rfl, ?_, ?_⟩ <;> revert b <;> decide

/-- Settles O2: the masks are checked for every word, and an assembled word has its flag and its byte. -/
theorem wordFormsByFlag : Obligations.WordFormsByFlag :=
  ⟨by decide, by decide, fun b => ⟨decodeWord_cwordBits b, decodeWord_pwordBits b⟩⟩

/-- Settles O3: the decoder evaluates to what the table stands for. -/
theorem specEncodingsDecode : Obligations.SpecEncodingsDecode :=
  ⟨rfl, rfl, rfl, rfl, rfl, rfl, rfl, rfl, rfl⟩

theorem readOperation_unassigned {n : Nat} (h : 12 ≤ n) (xs : List Nat) :
    readOperation n xs = .error (.unassignedSelector n) := by
  obtain ⟨k, rfl⟩ := Nat.exists_eq_add_of_le' h
  rfl

theorem decode_unassigned {n : Nat} (h : 12 ≤ n) (xs : List Nat) :
    decode .op (n :: xs) = .error (.unassignedSelector n) := by
  have hread : readInstr .op (n :: xs) = .error (.unassignedSelector n) := readOperation_unassigned h xs
  rw [decode, hread]

/-! ### The receiver's grouping (R79) -/

/-- Parameter words alone start no Command. -/
theorem groupWords_params_append (bs : List Byte) (ws : List Word9) :
    groupWords (bs.map pwordBits ++ ws) = groupWords ws := by
  induction bs with
  | nil => rfl
  | cons b bs ih => simp [groupWords, wordFlag_pwordBits, ih]

/-- The stream that follows a Command starts with a command word, if there is one. -/
theorem takeWhile_wordFlag_commandWords (q : List Command) :
    (q.flatMap wordsOf).takeWhile wordFlag = [] := by
  cases q with
  | nil => rfl
  | cons c q => simp [wordsOf, wordFlag_cwordBits]

/-- The parameters after a command word are those that were sent. -/
theorem paramBytes_of_stream (bs : List Byte) (q : List Command) :
    ((bs.map pwordBits ++ q.flatMap wordsOf).takeWhile wordFlag).map wordByte = bs := by
  have hflags : ∀ w ∈ bs.map pwordBits, wordFlag w = true := by simp [wordFlag_pwordBits]
  have hbytes : wordByte ∘ pwordBits = id := funext wordByte_pwordBits
  rw [List.takeWhile_append_of_pos hflags, takeWhile_wordFlag_commandWords, List.append_nil,
    List.map_map, hbytes, List.map_id]

/-- Settles O7, by induction on the Commands: each one's words are its group. -/
theorem receiverGroupsCommands : Obligations.ReceiverGroupsCommands := by
  intro q
  induction q with
  | nil => rfl
  | cons c q ih =>
    rw [List.flatMap_cons, wordsOf, List.cons_append, groupWords, wordFlag_cwordBits, wordByte_cwordBits,
      paramBytes_of_stream, groupWords_params_append, ih]
    rfl

end Sys2Proof
end

section
/-! SUPPORT. Steps of the control state by what they leave alone, a run taken one step at a time, and the machine's
own step: the requests it takes and refuses (O6, O42 to O46, O52). -/

namespace Sys2Proof.Machine

open Sys2Proof.Claims Sys2Proof.Safety

/-! ### Steps by what they leave alone -/

/-- A step that only emits an event, other than a lookup, or writes a working register. -/
def Micro.isRoutine : Micro → Bool
  | .emit (.lookup _ _) => false
  | .emit _ => true
  | .setShr _ => true
  | .setBitIdx _ => true
  | .loadCb _ => true
  | .setWIdx _ => true
  | .setSp _ => true
  | _ => false

/-- The step that returns the result of an external operation. -/
def Micro.isReturn : Micro → Bool
  | .ret _ => true
  | _ => false

/-- A list of steps none of which returns a result. -/
def NoReturn (ms : List Micro) : Prop := ∀ m ∈ ms, m.isReturn = false

/-- A list of routine steps. -/
def Routine (ms : List Micro) : Prop := ∀ m ∈ ms, m.isRoutine = true

/-- What every step of a list leaves alone the whole list leaves alone. -/
theorem runMicros_preserves {β : Type} (f : State → β) {ms : List Micro}
    (h : ∀ m ∈ ms, ∀ s, f (m.perform s) = f s) (s : State) : f (runMicros ms s) = f s := by
  induction ms generalizing s with
  | nil => rfl
  | cons m ms ih =>
    rw [runMicros_cons, ih (fun n hn => h n (List.mem_cons_of_mem m hn)), h m List.mem_cons_self]

theorem perform_handle_of_isRoutine {m : Micro} (h : m.isRoutine = true) (s : State) :
    (m.perform s).handle = s.handle := by
  cases m with
  | emit e =>
    cases e with
    | lookup r f => cases h
    | claim l ok => cases ok <;> rfl
    | rel l => simp only [perform_emit, emitEvent, eventEffect, floatLine]; split <;> rfl
    | _ => rfl
  | setShr | setBitIdx | loadCb | setWIdx | setSp => rfl
  | _ => cases h

/-- Routine steps leave the Panel Handle alone. -/
theorem runMicros_handle_of_routine {ms : List Micro} (h : Routine ms) (s : State) :
    (runMicros ms s).handle = s.handle :=
  runMicros_preserves State.handle (fun m hm => perform_handle_of_isRoutine (h m hm)) s

theorem perform_busy_of_not_isReturn {m : Micro} (h : m.isReturn = false) (s : State) :
    (m.perform s).busy = s.busy := by
  cases m with
  | emit e => exact emit_busy e s
  | ret r => cases h
  | _ => rfl

/-- Only a return clears `BUSY`. -/
theorem runMicros_busy_of_noReturn {ms : List Micro} (h : NoReturn ms) (s : State) :
    (runMicros ms s).busy = s.busy :=
  runMicros_preserves State.busy (fun m hm => perform_busy_of_not_isReturn (h m hm)) s

/-- A step that is no return neither reads nor writes `BUSY`. -/
theorem perform_setBusy {m : Micro} (h : m.isReturn = false) (s : State) (b : Bool) :
    m.perform { s with busy := b } = { m.perform s with busy := b } := by
  cases m with
  | emit e =>
    cases e with
    | claim l ok => cases ok <;> rfl
    | rel l => simp only [perform_emit, emitEvent, eventEffect, floatLine]; split <;> rfl
    | _ => rfl
  | ret r => cases h
  | _ => rfl

theorem runMicros_setBusy {ms : List Micro} (h : NoReturn ms) (s : State) (b : Bool) :
    runMicros ms { s with busy := b } = { runMicros ms s with busy := b } := by
  induction ms generalizing s with
  | nil => rfl
  | cons m ms ih =>
    rw [runMicros_cons, runMicros_cons, perform_setBusy (h m List.mem_cons_self),
      ih fun n hn => h n (List.mem_cons_of_mem m hn)]

theorem isReturn_of_isRoutine {m : Micro} (h : m.isRoutine = true) : m.isReturn = false := by
  cases m with
  | ret r => cases h
  | _ => rfl

theorem Routine.noReturn {ms : List Micro} (h : Routine ms) : NoReturn ms :=
  fun m hm => isReturn_of_isRoutine (h m hm)

@[simp] theorem routine_append {ms ns : List Micro} : Routine (ms ++ ns) ↔ Routine ms ∧ Routine ns :=
  List.forall_mem_append

@[simp] theorem routine_cons {m : Micro} {ms : List Micro} :
    Routine (m :: ms) ↔ m.isRoutine = true ∧ Routine ms :=
  List.forall_mem_cons

@[simp] theorem routine_nil : Routine [] := fun _ h => nomatch h

@[simp] theorem noReturn_append {ms ns : List Micro} :
    NoReturn (ms ++ ns) ↔ NoReturn ms ∧ NoReturn ns :=
  List.forall_mem_append

@[simp] theorem noReturn_cons {m : Micro} {ms : List Micro} :
    NoReturn (m :: ms) ↔ m.isReturn = false ∧ NoReturn ms :=
  List.forall_mem_cons

@[simp] theorem noReturn_nil : NoReturn [] := fun _ h => nomatch h

/-! ### The plans made of routine steps -/

@[simp] theorem routine_wordSteps (p : Params) (w : Word9) : Routine (wordSteps p w) := by
  cases hp : p.holdAfterCsAssert <;>
    simp [wordSteps, csHold, hp, bitSteps, drive, hold, Micro.isRoutine]

theorem routine_paramSteps (p : Params) (k : Nat) (bs : List Byte) : Routine (paramSteps p k bs) := by
  induction bs generalizing k with
  | nil => exact routine_nil
  | cons b bs ih => simp [paramSteps, ih, Micro.isRoutine]

@[simp] theorem routine_sendSteps (p : Params) (c : Command) : Routine (sendSteps p c) := by
  by_cases hd : c.1.postDelay = 0 <;>
    simp [sendSteps, routine_paramSteps, delaySteps, hd, sleepMs, Micro.isRoutine]

@[simp] theorem routine_playSteps (p : Params) (h : PanelHandle) (sid : SeqId) :
    Routine (playSteps p h sid) := by
  rw [playSteps_eq, routine_cons]
  refine ⟨rfl, fun m hm => ?_⟩
  obtain ⟨ck, -, hm⟩ := List.mem_flatMap.mp hm
  have hentry : Routine (sendSteps p ck.1 ++ [.setSp ⟨sid, ck.2 + 1⟩]) := by simp [Micro.isRoutine]
  exact hentry m hm

@[simp] theorem routine_railSteps (h : PanelHandle) (r : Rail) (e : Level) : Routine (railSteps h r e) := by
  unfold railSteps
  split <;> simp [rail, Micro.isRoutine]

@[simp] theorem routine_riseSteps (h : PanelHandle) : Routine (riseSteps h) := by
  simp [riseSteps, drive, hold, sleepMs, Micro.isRoutine]

@[simp] theorem routine_fallSteps (h : PanelHandle) : Routine (fallSteps h) := by
  simp [fallSteps, drive, Micro.isRoutine]

/-! ### A run taken one step at a time (R36, D23) -/

theorem step_inFlight {s : State} {m : Micro} {ms : List Micro} (h : s.pending = m :: ms) :
    step s = .next (m.perform { s with pending := ms }) := by
  rw [step, h]

theorem coreRun_succ (M : Host.Core) {k : Nat} {s t : M.State} (h : M.step s = .next t) :
    M.run (k + 1) s = M.run k t := by
  simp only [Host.Core.run, h]

theorem run_succ_of_step {k : Nat} {s t : State} (h : step s = .next t) :
    Sys2Proof.core.run (k + 1) s = Sys2Proof.core.run k t :=
  coreRun_succ Sys2Proof.core h

/-- With something in flight a run performs the first steps of it, one a step. -/
theorem run_inFlight {k : Nat} {s : State} (hk : k ≤ s.pending.length) :
    Sys2Proof.core.run k s =
      .next (runMicros (s.pending.take k) { s with pending := s.pending.drop k }) := by
  induction k generalizing s with
  | zero => rfl
  | succ k ih =>
    cases hp : s.pending with
    | nil => simp [hp] at hk
    | cons m ms =>
      have hlen : k ≤ (m.perform { s with pending := ms }).pending.length := by
        rw [hp, List.length_cons] at hk
        simpa using hk
      rw [run_succ_of_step (step_inFlight hp), ih hlen, List.take_succ_cons, List.drop_succ_cons,
        runMicros_cons, perform_pending, ← perform_setPending]

/-- Taken one event a step, an operation that has started has all its steps in flight. -/
theorem start_stepwise {s : State} (hs : s.stepwise = true) (hp : s.pending = []) (ms : List Micro) :
    s.start ms = { s with pending := ms } := by
  simp [State.start, hs, hp]

/-! ### Taking a request (R199, R201) -/

theorem step_request {s : State} {r : Request} {rest : List Request} (hp : s.pending = [])
    (hr : s.requests = r :: rest) {i : Instr} (hf : fetchRequest r = .ok i) :
    step s = exec i { s with requests := rest } := by
  simp only [step, hp, hr, hf]

theorem step_refusedRequest {s : State} {r : Request} {rest : List Request} (hp : s.pending = [])
    (hr : s.requests = r :: rest) {e : Refusal} (hf : fetchRequest r = .error e) :
    step s = .refused e := by
  simp only [step, hp, hr, hf]

theorem fetchRequest_of_mayInvoke {r : Request} {i : Instr} (hd : decode r.format r.fields = .ok i)
    (hm : mayInvoke r.caller i = true) : fetchRequest r = .ok i := by
  simp [fetchRequest, hd, hm]

theorem mayInvoke_iff {c : Caller} {i : Instr} :
    mayInvoke c i = true ↔ (c = .host → i.external = true) := by
  cases c <;> simp [mayInvoke]

/-- Settles O6: the decoder refuses the selector, whatever follows it. -/
theorem unassignedSelectorsRefused : Obligations.UnassignedSelectorsRefused := by
  intro s c n fields rest hn hp hr
  exact step_refusedRequest hp hr (by simp [fetchRequest, decode_unassigned hn])

/-- Settles O42: the request is fetched as the instruction it decodes to. -/
theorem stepRunsTheRequest : Obligations.StepRunsTheRequest := by
  intro s r rest i hp hr hd hm
  exact step_request hp hr (fetchRequest_of_mayInvoke hd (mayInvoke_iff.mpr hm))

/-- Settles O44: the host may not invoke an instruction that is not external. -/
theorem hostMayNotInvokeInternal : Obligations.HostMayNotInvokeInternal := by
  intro s r rest i hp hr hd hc hi
  exact step_refusedRequest hp hr (by simp [fetchRequest, hd, hc, mayInvoke, hi])

/-- The request made for table bits is fetched as the instruction they stand for. -/
theorem fetchRequest_tableRequest {nbits w : Nat} {i : Instr} (h : decodeTableWord nbits w = some i) :
    fetchRequest (tableRequest nbits w) = .ok i := by
  refine fetchRequest_of_mayInvoke ?_ (mayInvoke_iff.mpr fun hc => ?_)
  · unfold decodeTableWord at h
    split at h
    · cases h
    · cases h; assumption
  · cases hi : i.external <;> simp [tableRequest, h, hi] at hc ⊢

/-- Settles O43: the placed request is the first one, and nothing is in flight before it. -/
theorem placedWordRuns : Obligations.PlacedWordRuns := by
  intro s nbits w i h
  exact step_request rfl rfl (fetchRequest_tableRequest h)

/-- Settles O45: performing the first item in flight commutes with performing the rest. -/
theorem stepContinuesInFlight : Obligations.StepContinuesInFlight := by
  refine ⟨fun s m ms h => ⟨_, step_inFlight h, perform_pending .., perform_requests ..,
    finish_perform m ms s h, ?_, ?_⟩, fun s hp hr => by simp only [step, hp, hr]⟩
  · rintro e rfl
    exact emit_trace e _
  · intro hm
    rw [perform_trace]
    cases m with
    | emit e => exact absurd rfl (hm e)
    | _ => exact List.append_nil _

/-- Settles O46: an operation that is not taken one event a step has run when it has started. -/
theorem wholeOperationInOneStep : Obligations.WholeOperationInOneStep := by
  intro i s t hs hp h
  obtain ⟨ms, rfl⟩ := exec_eq_next h
  have hidle : (State.start { s with busy := i.external || s.busy } ms).pending = [] := by
    simp [State.start, hs, hp]
  exact ⟨hidle, finish_of_idle hidle⟩

/-- Settles O52: the reset state is written out with these values. -/
theorem resetValues : Obligations.ResetValues :=
  ⟨rfl, rfl, fun l => by cases l <;> rfl, rfl, rfl⟩

end Sys2Proof.Machine
end

section
/-! SUPPORT. What the reference receiver (R105, D4) reads of the events of words, Commands and sequences. Said
once as `Carries p e ws`: from no open frame, `e` makes it read the words `ws` and leaves no frame open. -/

namespace Sys2Proof.Machine

open Sys2Proof.Claims Sys2Proof.Safety

/-! ### Events that carry words -/

/-- From any state without an open frame the receiver reads exactly `ws` from the events `e`, and no frame is
open after them. -/
def Carries (p : Params) (e : List Event) (ws : List Word9) : Prop :=
  ∀ r : Receiver, r.cs ≠ some (csOn p) →
    (e.foldl (rxStep p) r).out = r.out ++ ws.map .word ∧ (e.foldl (rxStep p) r).cs ≠ some (csOn p)

theorem carries_nil (p : Params) : Carries p [] [] :=
  fun r h => ⟨(List.append_nil r.out).symm, h⟩

theorem Carries.append {p : Params} {e e' : List Event} {ws ws' : List Word9} (h : Carries p e ws)
    (h' : Carries p e' ws') : Carries p (e ++ e') (ws ++ ws') := by
  intro r hr
  obtain ⟨hout, hcs⟩ := h r hr
  obtain ⟨hout', hcs'⟩ := h' _ hcs
  rw [List.foldl_append]
  exact ⟨by rw [hout', hout, List.map_append, List.append_assoc], hcs'⟩

theorem Carries.flatMap {α : Type} {p : Params} {f : α → List Event} {g : α → List Word9}
    (h : ∀ a, Carries p (f a) (g a)) (as : List α) : Carries p (as.flatMap f) (as.flatMap g) := by
  induction as with
  | nil => exact carries_nil p
  | cons a as ih => exact (h a).append ih

/-- The receiver sees only the three serial lines. -/
theorem rxStep_of_not_isSerial (p : Params) (r : Receiver) {e : Event} (h : isSerial e = false) :
    rxStep p r e = r := by
  cases e with
  | w l v =>
    cases l with
    | rst => rfl
    | _ => cases h
  | _ => rfl

/-- Events that write no serial line carry no word. -/
theorem carries_of_not_isSerial {p : Params} {e : List Event} (h : ∀ x ∈ e, isSerial x = false) :
    Carries p e [] := by
  intro r hr
  have hfold : e.foldl (rxStep p) r = r := by
    induction e with
    | nil => rfl
    | cons x e ih =>
      rw [List.foldl_cons, rxStep_of_not_isSerial p r (h x List.mem_cons_self)]
      exact ih fun y hy => h y (List.mem_cons_of_mem x hy)
  rw [hfold]
  exact ⟨(List.append_nil r.out).symm, hr⟩

theorem Carries.decodeTrace {p : Params} {e : List Event} {ws : List Word9} (h : Carries p e ws) :
    decodeTrace p e = ws.map .word :=
  (h Receiver.init (by simp [Receiver.init])).1

/-! ### One word (R105, R106) -/

theorem csOff_ne_csOn (p : Params) : csOff p ≠ csOn p := by
  simp [csOff, csOn]

/-- One bit inside a frame: a sample of the data bit more. -/
theorem foldl_rxStep_bitEvents (p : Params) (w : Word9) (i : Nat) (r : Receiver)
    (h : r.cs = some (csOn p)) :
    (bitEvents w i).foldl (rxStep p) r =
      { r with scl := some true, sda := some (w.getLsbD i), acc := r.acc ++ [some (w.getLsbD i)] } := by
  simp [bitEvents, rxStep, h]

theorem foldl_rxStep_bits (p : Params) (w : Word9) (is : List Nat) (r : Receiver)
    (h : r.cs = some (csOn p)) :
    ((is.flatMap (bitEvents w)).foldl (rxStep p) r).cs = some (csOn p) ∧
    ((is.flatMap (bitEvents w)).foldl (rxStep p) r).out = r.out ∧
    ((is.flatMap (bitEvents w)).foldl (rxStep p) r).acc = r.acc ++ is.map fun i => some (w.getLsbD i) := by
  induction is generalizing r with
  | nil => simp [h]
  | cons i is ih =>
    rw [List.flatMap_cons, List.foldl_append, foldl_rxStep_bitEvents p w i r h]
    obtain ⟨hcs, hout, hacc⟩ := ih { r with
      scl := some true, sda := some (w.getLsbD i), acc := r.acc ++ [some (w.getLsbD i)] } h
    exact ⟨hcs, hout, by rw [hacc]; simp⟩

/-- The events of a word before its bits: they open a frame. -/
def openEvents (p : Params) : List Event :=
  [.w .cs (csOff p), .h, .w .scl true, .h, .w .cs (csOn p)] ++ if p.holdAfterCsAssert then [.h] else []

/-- The events of a word after its bits: they close the frame. -/
def closeEvents (p : Params) : List Event := [.w .cs (csOff p), .h]

theorem foldl_rxStep_openEvents (p : Params) (r : Receiver) (h : r.cs ≠ some (csOn p)) :
    (openEvents p).foldl (rxStep p) r = { r with cs := some (csOn p), scl := some true, acc := [] } := by
  cases hp : p.holdAfterCsAssert <;> simp [openEvents, hp, rxStep, h, csOff_ne_csOn p]

theorem foldl_rxStep_closeEvents (p : Params) (r : Receiver) (h : r.cs = some (csOn p)) :
    (closeEvents p).foldl (rxStep p) r =
      { r with cs := some (csOff p), out := r.out ++ [frameItem r.acc] } := by
  simp [closeEvents, rxStep, h, csOff_ne_csOn p]

/-- The order in which the bits of a word are sent (R100). -/
def bitOrder : List Nat := [8, 7, 6, 5, 4, 3, 2, 1, 0]

theorem wordEvents_eq (p : Params) (w : Word9) :
    wordEvents p w = openEvents p ++ bitOrder.flatMap (bitEvents w) ++ closeEvents p := by
  simp [wordEvents, openEvents, closeEvents, bitOrder]

/-- Nine samples of the bits of a word are that word (R104, R105). -/
theorem frameItem_bits (w : Word9) : frameItem (bitOrder.map fun i => some (w.getLsbD i)) = .word w := by
  revert w; decide

/-- One word, from a receiver without an open frame (R106). -/
theorem foldl_rxStep_wordEvents (p : Params) (w : Word9) (r : Receiver) (h : r.cs ≠ some (csOn p)) :
    ((wordEvents p w).foldl (rxStep p) r).out = r.out ++ [.word w] ∧
    ((wordEvents p w).foldl (rxStep p) r).cs = some (csOff p) := by
  obtain ⟨hcs, hout, hacc⟩ := foldl_rxStep_bits p w bitOrder
    { r with cs := some (csOn p), scl := some true, acc := [] } rfl
  rw [wordEvents_eq, List.foldl_append, List.foldl_append, foldl_rxStep_openEvents p r h,
    foldl_rxStep_closeEvents p _ hcs, hout, hacc, List.nil_append, frameItem_bits]
  exact ⟨rfl, rfl⟩

theorem carries_wordEvents (p : Params) (w : Word9) : Carries p (wordEvents p w) [w] := by
  intro r hr
  obtain ⟨hout, hcs⟩ := foldl_rxStep_wordEvents p w r hr
  exact ⟨hout, by simp [hcs, csOff_ne_csOn p]⟩

/-! ### Commands, sequences, transitions (R111, R122) -/

theorem carries_commandEvents (p : Params) (c : Command) :
    Carries p (commandEvents p c) (wordsOf c) := by
  have hwords : Carries p ((wordsOf c).flatMap (wordEvents p)) ((wordsOf c).flatMap fun w => [w]) :=
    Carries.flatMap (carries_wordEvents p) (wordsOf c)
  have hdelay : Carries p (if c.1.postDelay = 0 then [] else [.s c.1.postDelay]) [] :=
    carries_of_not_isSerial fun x hx => by
      split at hx
      · cases hx
      · rw [List.mem_singleton.mp hx]; rfl
  simpa [commandEvents] using hwords.append hdelay

theorem carries_sequenceEvents (p : Params) (q : List Command) :
    Carries p (sequenceEvents p q) (q.flatMap wordsOf) :=
  Carries.flatMap (carries_commandEvents p) q

theorem not_isSerial_of_mem_railEvents {h : PanelHandle} {r : Rail} {e : Level} {x : Event}
    (hx : x ∈ railEvents h r e) : isSerial x = false := by
  rw [(mem_railEvents.mp hx).2]; rfl

theorem carries_powerOnEvents (p : Params) (h : PanelHandle) :
    Carries p (powerOnEvents p h) (h.onSeq.flatMap wordsOf) := by
  have hrise : Carries p (riseEvents h) [] := carries_of_not_isSerial fun x hx => by
    rw [riseEvents_eq, List.mem_append, List.mem_cons, List.mem_singleton] at hx
    rcases hx with hx | rfl | rfl
    · exact (underResetEvents_not_serial_ne_release hx).1
    · rfl
    · rfl
  exact hrise.append (carries_sequenceEvents p h.onSeq)

theorem carries_powerOffEvents (p : Params) (h : PanelHandle) :
    Carries p (powerOffEvents p h) (h.offSeq.flatMap wordsOf) := by
  have hfall : Carries p (fallEvents h) [] := carries_of_not_isSerial fun x hx => by
    rw [fallEvents_eq, List.mem_cons] at hx
    rcases hx with rfl | hx
    · rfl
    · obtain ⟨r, -, rfl⟩ := mem_railsOffEvents.mp hx
      rfl
  simpa [powerOffEvents] using (carries_sequenceEvents p h.offSeq).append hfall

/-! ### What the three internal operations emit -/

theorem emits_transmitWord (w : Word9) {s : State} (hs : s.pending = []) :
    Emits (.transmitWord w) s (wordEvents s.params w) := by
  obtain ⟨t, ht, hfin⟩ := transmitWordRuns w s hs
  exact ⟨t, ht, by rw [hfin]; rfl⟩

theorem emits_send {c : CommandRec} (h : c.wf = true) {s : State} (hs : s.pending = []) :
    Emits (.send c) s (commandEvents s.params ⟨c, h⟩) := by
  obtain ⟨t, ht, hfin⟩ := sendRuns c h s hs
  exact ⟨t, ht, by rw [hfin]; rfl⟩

theorem emits_play (sid : SeqId) {s : State} (hs : s.pending = []) :
    Emits (.play sid) s (sequenceEvents s.params (activeSeq s.handle sid)) := by
  obtain ⟨t, ht, hfin⟩ := playRuns sid s hs
  exact ⟨t, ht, by rw [hfin, afterPlay_trace]⟩

/-- Settles O11: the frame of a word holds its nine bits in order. -/
theorem wordRoundTrip : Obligations.WordRoundTrip := by
  intro w s hs
  exact ⟨_, emits_transmitWord w hs, (carries_wordEvents s.params w).decodeTrace,
    fun r hr => foldl_rxStep_wordEvents s.params w r hr⟩

/-- Parameter `k` of a Command is sent when `k` is below the count. -/
theorem sentParams_getElem? (c : Command) {k : Nat} (hk : k < c.1.parameterCount) :
    (sentParams c)[k]? = c.1.parameters[k]? :=
  List.getElem?_take_of_lt hk

/-- Settles O16: the words of a Command, each read back whole. -/
theorem sendReachesTheReceiver : Obligations.SendReachesTheReceiver := by
  intro c hwf s hs
  let c' : Command := ⟨c, hwf⟩
  refine ⟨_, wordsOf c', emits_send hwf hs, (carries_commandEvents s.params c').decodeTrace, ?_, rfl,
    fun k hk => ?_⟩
  · simp [wordsOf, sentParams_length, c', Nat.add_comm]
  · rw [wordsOf, List.getElem?_cons_succ, List.getElem?_map, sentParams_getElem? c' hk]
    rfl

/-! ### Minimum durations (R101, R114, R122, R138) -/

theorem durMin_append (e e' : List Event) : durMin (e ++ e') = durMin e + durMin e' := by
  simp [durMin]

theorem durMin_flatMap {α : Type} (f : α → List Event) (as : List α) :
    durMin (as.flatMap f) = (as.map fun a => durMin (f a)).sum := by
  induction as with
  | nil => rfl
  | cons a as ih => rw [List.flatMap_cons, durMin_append, ih, List.map_cons, List.sum_cons]

theorem durMin_wordEvents (p : Params) (w : Word9) : durMin (wordEvents p w) = wordUs p := by
  cases hp : p.holdAfterCsAssert <;>
    simp [wordEvents, bitEvents, durMin, eventUs, wordUs, hp, Config.holdUs]

theorem durMin_commandEvents (p : Params) (c : Command) : durMin (commandEvents p c) = commandUs p c := by
  have hdelay : durMin (if c.1.postDelay = 0 then [] else [.s c.1.postDelay]) = 1000 * c.1.postDelay := by
    split
    · next h => rw [h]; rfl
    · rfl
  have hwords : (wordsOf c).length = 1 + c.1.parameterCount := by
    simp [wordsOf, sentParams_length, Nat.add_comm]
  rw [commandEvents, durMin_append, durMin_flatMap, hdelay]
  simp [durMin_wordEvents, hwords, commandUs, Nat.mul_comm]

theorem durMin_sequenceEvents (p : Params) (q : List Command) :
    durMin (sequenceEvents p q) = sequenceUs p q := by
  simp only [sequenceEvents, durMin_flatMap, durMin_commandEvents, sequenceUs]

/-- A rail call takes no time of its own. -/
theorem durMin_railEvents (h : PanelHandle) (r : Rail) (e : Level) : durMin (railEvents h r e) = 0 := by
  unfold railEvents
  split <;> rfl

theorem durMin_powerOnEvents (p : Params) (h : PanelHandle) :
    durMin (powerOnEvents p h) = 30 + 10000 + sequenceUs p h.onSeq := by
  have hrise : durMin (riseEvents h) = 30 + 10000 := by
    simp only [riseEvents, durMin_append, durMin_railEvents]
    rfl
  rw [powerOnEvents, durMin_append, hrise, durMin_sequenceEvents]

theorem durMin_powerOffEvents (p : Params) (h : PanelHandle) :
    durMin (powerOffEvents p h) = sequenceUs p h.offSeq := by
  have hfall : durMin (fallEvents h) = 0 := by
    simp only [fallEvents, durMin_append, durMin_railEvents]
    rfl
  rw [powerOffEvents, durMin_append, hfall, durMin_sequenceEvents, Nat.add_zero]

/-- Settles O21: every entry's words are read in order, and every entry takes its own minimum. -/
theorem playReachesTheReceiver : Obligations.PlayReachesTheReceiver := by
  intro sid s hs
  exact ⟨_, emits_play sid hs, (carries_sequenceEvents s.params _).decodeTrace, durMin_sequenceEvents _ _⟩

/-- Settles O18: the words of the Command and its delay. -/
theorem sendDuration : Obligations.SendDuration := by
  intro c hwf s hs
  exact ⟨_, emits_send hwf hs, durMin_commandEvents s.params ⟨c, hwf⟩⟩

/-- Settles O27: the holds and the settle delay of the way up, and the sequences. -/
theorem transitionDurations : Obligations.TransitionDurations := by
  intro s hs
  exact ⟨fun hoff => ⟨_, emits_setPowerOn hs hoff, durMin_powerOnEvents s.params s.handle⟩,
    fun hon => ⟨_, emits_setPowerOff hs hon, durMin_powerOffEvents s.params s.handle⟩⟩

end Sys2Proof.Machine
end

section
/-! SUPPORT. The remaining facts about one word, one Command and one transition: sizes, timing of the data line,
level changes (R101 to R103), the command buffer (R20), `POWER` as the last write (R139). -/

namespace Sys2Proof.Machine

open Sys2Proof.Claims Sys2Proof.Safety

/-! ### Word and Command forms (R71, R74, R77) -/

theorem exec_cword (b : Byte) (s : State) :
    exec (.cword b) s = runInternal s (wordSteps s.params (cwordBits b)) := rfl

theorem exec_pword (b : Byte) (s : State) :
    exec (.pword b) s = runInternal s (wordSteps s.params (pwordBits b)) := rfl

theorem exec_cmd (c : CommandRec) (s : State) : exec (.cmd c) s = execSend c s := rfl

theorem exec_setbrt (b : Byte) (s : State) :
    exec (.setbrt b) s = runInternal s (sendSteps s.params (setbrtCommand s.params b)) := rfl

/-- Settles O9: each word form runs the steps of its word. -/
theorem wordFormsRun : Obligations.WordFormsRun := by
  intro b s hs
  rw [exec_cword, exec_pword]
  exact ⟨runInternal_wordSteps hs (cwordBits b), runInternal_wordSteps hs (pwordBits b)⟩

/-- Settles O15: each Command form runs the steps of its Command. -/
theorem commandFormsRun : Obligations.CommandFormsRun := by
  refine ⟨fun c h s hs => ?_, fun b s hs => ?_⟩
  · rw [exec_cmd, execSend_of_wf h]
    exact runInternal_sendSteps hs ⟨c, h⟩
  · rw [exec_setbrt]
    exact runInternal_sendSteps hs (setbrtCommand s.params b)

/-! ### The size of a word (R101) -/

theorem countP_isWrite_wordEvents (p : Params) (w : Word9) : (wordEvents p w).countP isWrite = 31 := by
  cases hp : p.holdAfterCsAssert <;> simp only [wordEvents, hp] <;> rfl

theorem countP_isHold_wordEvents (p : Params) (w : Word9) :
    (wordEvents p w).countP isHold = if p.holdAfterCsAssert then 31 else 30 := by
  cases hp : p.holdAfterCsAssert <;> simp only [wordEvents, hp] <;> rfl

/-- The writes of SDA are the bits of the word, bit 8 first. -/
theorem filter_data_wordEvents (p : Params) (w : Word9) :
    (wordEvents p w).filter (fun x => decide (hideData x = .w .sda false)) =
      bitOrder.map fun i => .w .sda (w.getLsbD i) := by
  cases hp : p.holdAfterCsAssert <;> simp [wordEvents, bitEvents, hp, hideData, bitOrder]

/-- With the data bits hidden all words look alike. -/
theorem map_hideData_wordEvents (p : Params) (w w' : Word9) :
    (wordEvents p w).map hideData = (wordEvents p w').map hideData := by
  cases hp : p.holdAfterCsAssert <;> simp [wordEvents, bitEvents, hp, hideData]

/-- Settles O10: the events of a word are counted. -/
theorem wordTraceSize : Obligations.WordTraceSize := by
  intro w w' s hs
  exact ⟨_, _, emits_transmitWord w hs, emits_transmitWord w' hs, countP_isWrite_wordEvents s.params w,
    countP_isHold_wordEvents s.params w, durMin_wordEvents s.params w,
    filter_data_wordEvents s.params w, map_hideData_wordEvents s.params w w'⟩

/-! ### The data line around the rising edge (R103) -/

/-- From here on, with SCL and CS last written as given: every write of SDA comes while SCL is 0 and CS is
asserted and is held over the rising edge, and every write of CS comes while SCL is 1. -/
def WellTimed (p : Params) (scl cs : Option Level) : List Event → Prop
  | [] => True
  | .w .sda _ :: t =>
    scl = some false ∧ cs = some (csOn p) ∧ (∃ rest, t = .h :: .w .scl true :: .h :: rest) ∧
      WellTimed p scl cs t
  | .w .cs v :: t => scl = some true ∧ WellTimed p scl (some v) t
  | .w .scl v :: t => WellTimed p (some v) cs t
  | _ :: t => WellTimed p scl cs t

theorem lastLevel_concat_write (l l' : Line) (v : Level) (t : List Event) :
    lastLevel l (t ++ [.w l' v]) = if l' = l then some v else lastLevel l t := by
  rw [lastLevel, List.foldl_append]
  rfl

theorem lastLevel_concat_of_not_isWrite (l : Line) (t : List Event) {e : Event} (h : isWrite e = false) :
    lastLevel l (t ++ [e]) = lastLevel l t := by
  rw [lastLevel, List.foldl_append]
  cases e with
  | w l' v => cases h
  | _ => rfl

/-- What the running levels say of the next event, and that the events after it are well timed too. -/
theorem WellTimed.head {p : Params} {pre t : List Event} {x : Event}
    (h : WellTimed p (lastLevel .scl pre) (lastLevel .cs pre) (x :: t)) :
    (∀ v, x = .w .sda v → lastLevel .scl pre = some false ∧ lastLevel .cs pre = some (csOn p) ∧
      ∃ rest, t = .h :: .w .scl true :: .h :: rest) ∧
    (∀ v, x = .w .cs v → lastLevel .scl pre = some true) ∧
    WellTimed p (lastLevel .scl (pre ++ [x])) (lastLevel .cs (pre ++ [x])) t := by
  cases x with
  | w l v =>
    simp only [lastLevel_concat_write]
    cases l with
    | sda =>
      obtain ⟨hscl, hcs, hpost, hrest⟩ := h
      exact ⟨fun _ _ => ⟨hscl, hcs, hpost⟩, nofun, hrest⟩
    | cs => exact ⟨nofun, fun _ _ => h.1, h.2⟩
    | scl | rst => exact ⟨nofun, nofun, h⟩
  | _ =>
    refine ⟨nofun, nofun, ?_⟩
    rwa [lastLevel_concat_of_not_isWrite _ _ (by rfl), lastLevel_concat_of_not_isWrite _ _ (by rfl)]

/-- Well-timed events are well timed at each place. -/
theorem WellTimed.at {p : Params} {pre mid post : List Event} {x : Event}
    (h : WellTimed p (lastLevel .scl pre) (lastLevel .cs pre) (mid ++ x :: post)) :
    (∀ v, x = .w .sda v → lastLevel .scl (pre ++ mid) = some false ∧
      lastLevel .cs (pre ++ mid) = some (csOn p) ∧ ∃ rest, post = .h :: .w .scl true :: .h :: rest) ∧
    (∀ v, x = .w .cs v → lastLevel .scl (pre ++ mid) = some true) := by
  induction mid generalizing pre with
  | nil =>
    rw [List.append_nil]
    exact ⟨h.head.1, h.head.2.1⟩
  | cons y mid ih =>
    rw [List.append_cons]
    exact ih h.head.2.2

/-- After the first write of chip-select the events of a word are well timed. -/
theorem wellTimed_wordEvents (p : Params) (w : Word9) :
    ∃ t, wordEvents p w = .w .cs (csOff p) :: t ∧ WellTimed p none (some (csOff p)) t := by
  refine ⟨_, rfl, ?_⟩
  cases p.holdAfterCsAssert <;> simp [bitEvents, WellTimed]

/-- Settles O12: every event after the first is well timed, and the first is a write of chip-select. -/
theorem dataStableAtRisingEdge : Obligations.DataStableAtRisingEdge := by
  intro w s hs
  obtain ⟨t, he, ht⟩ := wellTimed_wordEvents s.params w
  refine ⟨_, emits_transmitWord w hs, fun pre v post h => ?_, fun pre v post h hne => ?_⟩
  · cases pre with
    | nil => rw [he] at h; cases h
    | cons x mid =>
      rw [he, List.cons_append, List.cons.injEq] at h
      obtain ⟨rfl, rfl⟩ := h
      exact (WellTimed.at (pre := [_]) ht).1 v rfl
  · cases pre with
    | nil => exact absurd rfl hne
    | cons x mid =>
      rw [he, List.cons_append, List.cons.injEq] at h
      obtain ⟨rfl, rfl⟩ := h
      exact (WellTimed.at (pre := [_]) ht).2 v rfl

/-! ### Level changes (R102, D3) -/

/-- Whether an event writes this line. -/
def writesLine (l : Line) : Event → Bool
  | .w l' _ => decide (l' = l)
  | _ => false

/-- A line changes at most as often as it is written. -/
theorem edges_le_countP (l : Line) (v : Level) (t : List Event) : edges l v t ≤ t.countP (writesLine l) := by
  induction t generalizing v with
  | nil => exact Nat.le_refl 0
  | cons e t ih =>
    cases e with
    | w l' v' =>
      have h := ih v'
      by_cases hl : l' = l
      · simp only [edges, hl, writesLine, List.countP_cons, decide_true, if_true]
        split <;> omega
      · simpa [edges, hl, writesLine, List.countP_cons] using ih v
    | _ => simpa [edges, writesLine, List.countP_cons] using ih v

theorem edges_cs_wordEvents (p : Params) (w : Word9) : edges .cs (csOff p) (wordEvents p w) = 2 := by
  have hne := csOff_ne_csOn p
  cases hp : p.holdAfterCsAssert <;> simp [wordEvents, bitEvents, hp, edges, hne, hne.symm]

theorem edges_scl_wordEvents (p : Params) (w : Word9) : edges .scl true (wordEvents p w) = 18 := by
  cases hp : p.holdAfterCsAssert <;> simp [wordEvents, bitEvents, hp, edges]

theorem countP_sda_wordEvents (p : Params) (w : Word9) :
    (wordEvents p w).countP (writesLine .sda) = 9 := by
  cases hp : p.holdAfterCsAssert <;> simp only [wordEvents, hp] <;> rfl

theorem countP_rst_wordEvents (p : Params) (w : Word9) :
    (wordEvents p w).countP (writesLine .rst) = 0 := by
  cases hp : p.holdAfterCsAssert <;> simp only [wordEvents, hp] <;> rfl

/-- Settles O13: CS and SCL are followed through the word, SDA and RST are bounded by their writes. -/
theorem wordTransitions : Obligations.WordTransitions := by
  intro w s hs hcs hscl
  refine ⟨_, emits_transmitWord w hs, ?_, ?_, ?_, ?_⟩
  · rw [hcs, edges_cs_wordEvents]
  · rw [hscl, edges_scl_wordEvents]
  · exact (edges_le_countP ..).trans_eq (countP_sda_wordEvents s.params w)
  · exact Nat.le_zero.mp ((edges_le_countP ..).trans_eq (countP_rst_wordEvents s.params w))

/-! ### The command buffer (R20, R21) -/

/-- A slot below the count holds the parameter. -/
theorem loadSlots_getElem? {c : CommandRec} (h : c.wf = true) (old : Vector Byte 15) {k : Nat}
    (hk : k < c.parameterCount) : (loadSlots c.parameters old)[k]? = c.parameters[k]? := by
  have hcount : c.parameterCount ≤ 15 := count_le ⟨c, h⟩
  have hlen : c.parameterCount ≤ c.parameters.length := by
    simp only [CommandRec.wf, Bool.and_eq_true, decide_eq_true_eq] at h
    exact h.2
  have hk15 : k < 15 := by omega
  have hkl : k < c.parameters.length := by omega
  rw [Vector.getElem?_eq_getElem hk15, loadSlots_get _ _ _ hk15, List.getElem?_eq_getElem hkl,
    Option.getD_some]

/-- Settles O17: a count of at most 15 fits its registers, and the slots below it are loaded. -/
theorem bufferHoldsCommand : Obligations.BufferHoldsCommand := by
  intro c hwf s hs
  obtain ⟨t, ht, hfin⟩ := sendRuns c hwf s hs
  have hcount : c.parameterCount ≤ 15 := count_le ⟨c, hwf⟩
  refine ⟨t, ht, ?_⟩
  rw [hfin]
  refine ⟨rfl, Nat.mod_eq_of_lt (hcount.trans_lt (by decide)), rfl,
    Nat.mod_eq_of_lt (hcount.trans_lt (by decide)), fun k hk => ?_⟩
  exact loadSlots_getElem? hwf s.work.cb.param hk

/-! ### `POWER` is the last write of a transition (R139) -/

/-- Routine steps followed by the write of `POWER`, taken one a step: `POWER` is the old one until nothing is
left. -/
theorem power_of_run_routine {ms : List Micro} (hms : Routine ms) (q : Power) {t : State}
    (ht : t.pending = ms ++ [Micro.setPower q]) {k : Nat} (hk : k ≤ t.pending.length) :
    ∃ u, Sys2Proof.core.run k t = .next u ∧
      u.handle.power = if k < t.pending.length then t.handle.power else q := by
  refine ⟨_, run_inFlight hk, ?_⟩
  split
  · next hlt =>
    have hle : k ≤ ms.length := by simpa [ht, Nat.lt_succ_iff] using hlt
    have htake : Routine (t.pending.take k) := by
      rw [ht, List.take_append_of_le_length hle]
      exact fun m hm => hms m (List.mem_of_mem_take hm)
    rw [runMicros_handle_of_routine htake]
  · next hge =>
    rw [List.take_of_length_le (Nat.le_of_not_lt hge), ht, runMicros_append]
    rfl

/-- Settles O26: all steps of a transition but the last are routine. -/
theorem powerWrittenLast : Obligations.PowerWrittenLast := by
  intro s hs hw
  refine ⟨fun hoff => ?up, fun hon => ?down⟩
  case up =>
    have hms : Routine (riseSteps s.handle ++ playSteps s.params s.handle .onSeq) := by simp
    refine ⟨_, by rw [exec_setPowerOn, execSetPowerOn_of_off hoff, powerOnSteps_eq, runInternal,
      start_stepwise hw hs], fun k hk => ?_⟩
    rw [← hoff]
    exact power_of_run_routine hms .on rfl hk
  case down =>
    have hms : Routine (playSteps s.params s.handle .offSeq ++ fallSteps s.handle) := by simp
    refine ⟨_, by rw [exec_setPowerOff, execSetPowerOff_of_on hon, powerOffSteps_eq, runInternal,
      start_stepwise hw hs], fun k hk => ?_⟩
    rw [← hon]
    exact power_of_run_routine hms .off rfl hk

end Sys2Proof.Machine
end

section
/-! SUPPORT. The state an update leads to (R151, R154), and what it leaves alone; an accepted external operation.
The statements of the Brightness Controller (O28 to O33) follow. -/

namespace Sys2Proof.Machine

open Sys2Proof.Claims Sys2Proof.Safety

/-! ### An accepted external operation (R63, R205) -/

/-- An accepted operation finishes where its steps lead, with its result returned: `BUSY`, set at the start, is
cleared by the return. -/
theorem finish_accepted {s : State} (hbusy : s.busy = false) (hpend : s.pending = []) {ms : List Micro}
    (hms : NoReturn ms) (r : Result) :
    (State.start { s with busy := true } (ms ++ [.ret r])).finish = { runMicros ms s with result := r } := by
  have hidle : (runMicros ms s).busy = false := (runMicros_busy_of_noReturn hms s).trans hbusy
  rw [finish_start (s := { s with busy := true }) hpend, runMicros_append, runMicros_setBusy hms]
  show { runMicros ms s with busy := false, result := r } = _
  rw [← hidle]

theorem acceptAttached_of_busy {s : State} (hb : s.busy = true) (ms : List Micro) (r : Result) :
    acceptAttached s ms r = .refused .busy := by
  rw [acceptAttached, if_pos hb]

theorem acceptAttached_of_detached {s : State} (hb : s.busy = false) (hl : s.life = .detached)
    (ms : List Micro) (r : Result) : acceptAttached s ms r = .refused .notAttached := by
  rw [acceptAttached, hb, hl]
  rfl

theorem acceptAttached_of_attached {s : State} (hb : s.busy = false) (hl : s.life = .attached)
    (ms : List Micro) (r : Result) : acceptAttached s ms r = accept s ms r := by
  rw [acceptAttached, hb, hl]
  rfl

/-- While attached and ready, an external operation finishes where its steps lead, with its result returned. -/
theorem acceptAttached_finish {s : State} (hs : Ready s) {ms : List Micro} (hms : NoReturn ms)
    (r : Result) :
    ∃ t, acceptAttached s ms r = .next t ∧ t.finish = { runMicros ms s with result := r } :=
  ⟨_, acceptAttached_of_attached hs.2.1 hs.1 ms r, finish_accepted hs.2.1 hs.2.2 hms r⟩

/-! ### What sequences and transitions leave alone (R120, R131, R133) -/

/-- Sending Commands touches the serial lines, the working registers and the trace. -/
theorem foldl_afterSend_frame (cs : List Command) (s : State) :
    cs.foldl afterSend s =
      { s with
        line := { (cs.foldl afterSend s).line with rst := s.line.rst }
        work := (cs.foldl afterSend s).work
        trace := (cs.foldl afterSend s).trace } := by
  induction cs generalizing s with
  | nil => rfl
  | cons c cs ih => exact ih (afterSend s c)

theorem afterPlay_frame (s : State) (sid : SeqId) :
    afterPlay s sid =
      { s with
        line := { (afterPlay s sid).line with rst := s.line.rst }
        work := (afterPlay s sid).work
        trace := (afterPlay s sid).trace } :=
  congrArg (Micro.perform (.setSp ⟨sid, (activeSeq s.handle sid).length⟩))
    (foldl_afterSend_frame (activeSeq s.handle sid) s)

theorem afterPowerOn_frame (s : State) :
    afterPowerOn s =
      { s with
        line := { (afterPowerOn s).line with rst := true }
        railEn := railsAfter s.handle true s.railEn
        handle := { s.handle with power := .on }
        work := (afterPowerOn s).work
        trace := (afterPowerOn s).trace } :=
  congrArg (Micro.perform (.setPower .on)) (afterPlay_frame (afterRise s) .onSeq)

theorem afterPowerOff_frame (s : State) :
    afterPowerOff s =
      { s with
        line := { (afterPowerOff s).line with rst := false }
        railEn := railsAfter s.handle false s.railEn
        handle := { s.handle with power := .off }
        work := (afterPowerOff s).work
        trace := (afterPowerOff s).trace } :=
  congrArg (fun u => Micro.perform (.setPower .off) (afterFall s.handle u)) (afterPlay_frame s .offSeq)

/-! ### The state an update leads to (R151, R154) -/

theorem perform_setBrt (b : Byte) (s : State) :
    (Micro.setBrt b).perform s = { s with handle := { s.handle with brt := b } } := rfl

/-- Wanted ON: the transition if the panel is OFF, then the brightness Command. -/
theorem afterUpdate_on (s : State) (b : Byte) :
    afterUpdate s b false false =
      match s.handle.power with
      | .on => afterSend ((Micro.setBrt b).perform s) (setbrtCommand s.params b)
      | .off => afterSend (afterPowerOn ((Micro.setBrt b).perform s)) (setbrtCommand s.params b) := rfl

/-- Wanted OFF: the transition if the panel is ON, and no brightness Command. -/
theorem afterUpdate_off (s : State) (b : Byte) {bl su : Bool} (h : bl = true ∨ su = true) :
    afterUpdate s b bl su =
      match s.handle.power with
      | .on => afterPowerOff ((Micro.setBrt b).perform s)
      | .off => (Micro.setBrt b).perform s := by
  have hne : ¬(bl = false ∧ su = false) := by
    rintro ⟨rfl, rfl⟩
    rcases h with h | h <;> cases h
  rw [afterUpdate, if_neg hne]
  rfl

/-- The two answers of the wanted power state, with what they say of the flags. -/
theorem shouldBeOn_cases (bl su : Bool) :
    (bl = false ∧ su = false ∧ shouldBeOn bl su = .on) ∨
    ((bl = true ∨ su = true) ∧ shouldBeOn bl su = .off) := by
  cases hw : shouldBeOn bl su with
  | on => exact .inl ⟨(shouldBeOn_eq_on.mp hw).1, (shouldBeOn_eq_on.mp hw).2, rfl⟩
  | off => exact .inr ⟨shouldBeOn_eq_off.mp hw, rfl⟩

/-- The transition of an update, begun once `BRT` is written, leads where `set_power` does. -/
theorem runMicros_powerOnSteps_setBrt (b : Byte) (s : State) :
    runMicros (powerOnSteps s.params s.handle) ((Micro.setBrt b).perform s) =
      afterPowerOn ((Micro.setBrt b).perform s) := by
  rw [← runMicros_powerOnSteps]
  exact congrArg (runMicros · _) (powerOnSteps_congr rfl rfl)

theorem runMicros_powerOffSteps_setBrt (b : Byte) (s : State) :
    runMicros (powerOffSteps s.params s.handle) ((Micro.setBrt b).perform s) =
      afterPowerOff ((Micro.setBrt b).perform s) := by
  rw [← runMicros_powerOffSteps]
  exact congrArg (runMicros · _) (powerOffSteps_congr rfl rfl)

@[simp] theorem afterPowerOn_params (s : State) : (afterPowerOn s).params = s.params := by
  rw [afterPowerOn_frame]

/-- The steps of an update lead to the state R151 and R154 describe. -/
theorem runMicros_updateSteps (b : Byte) (bl su : Bool) (s : State) :
    runMicros (updateSteps s.params s.handle b bl su) s = afterUpdate s b bl su := by
  rw [updateSteps, runMicros_append, runMicros_cons]
  rcases shouldBeOn_cases bl su with ⟨rfl, rfl, hw⟩ | ⟨hflag, hw⟩
  · rw [hw, afterUpdate_on, brightnessSteps, sendsBrightness]
    cases hp : s.handle.power with
    | on =>
      simp only [transitionSteps, hp, runMicros_nil, if_true]
      exact runMicros_sendSteps _ ((Micro.setBrt b).perform s)
    | off =>
      simp only [transitionSteps, hp, runMicros_powerOnSteps_setBrt, if_true]
      rw [← runMicros_sendSteps, afterPowerOn_params, perform_setBrt_params]
  · rw [hw, afterUpdate_off s b hflag, brightnessSteps, sendsBrightness]
    cases hp : s.handle.power with
    | on =>
      simp only [transitionSteps, hp, runMicros_powerOffSteps_setBrt]
      rfl
    | off =>
      simp only [transitionSteps, hp, runMicros_nil]
      rfl

@[simp] theorem noReturn_powerOnSteps (p : Params) (h : PanelHandle) : NoReturn (powerOnSteps p h) := by
  have hms : Routine (riseSteps h ++ playSteps p h .onSeq) := by simp
  rw [powerOnSteps_eq, noReturn_append]
  exact ⟨hms.noReturn, by simp [Micro.isReturn]⟩

@[simp] theorem noReturn_powerOffSteps (p : Params) (h : PanelHandle) : NoReturn (powerOffSteps p h) := by
  have hms : Routine (playSteps p h .offSeq ++ fallSteps h) := by simp
  rw [powerOffSteps_eq, noReturn_append]
  exact ⟨hms.noReturn, by simp [Micro.isReturn]⟩

@[simp] theorem noReturn_updateSteps (p : Params) (h : PanelHandle) (b : Byte) (bl su : Bool) :
    NoReturn (updateSteps p h b bl su) := by
  have htrans : ∀ q, NoReturn (transitionSteps p h q) := by
    intro q
    cases q <;> cases hp : h.power <;> simp [transitionSteps, hp]
  have hbright : ∀ q, NoReturn (brightnessSteps p q b) := by
    intro q
    cases q with
    | on => exact (routine_sendSteps p _).noReturn
    | off => exact noReturn_nil
  simp [updateSteps, htrans, hbright, Micro.isReturn]

/-- A state with all that a transition, an update or a suspend writes set aside: the levels, `POWER`, `BRT`, the
working registers, the trace and the result. -/
def State.fixed (s : State) : State :=
  { s with
    line := ⟨false, false, false, false⟩
    railEn := ⟨false, false⟩
    handle := { s.handle with power := .off, brt := 0#8 }
    work := State.reset.work
    trace := []
    result := .nothing }

/-- What is not set aside is the same in two states whose fixed parts are. -/
theorem eq_of_fixed_eq {β : Type} (f : State → β) (hf : ∀ u : State, f u.fixed = f u) {s t : State}
    (h : t.fixed = s.fixed) : f t = f s := by
  rw [← hf t, h, hf]

theorem afterSend_fixed (s : State) (c : Command) : (afterSend s c).fixed = s.fixed := rfl

theorem afterPowerOn_fixed (s : State) : (afterPowerOn s).fixed = s.fixed := by
  rw [afterPowerOn_frame]; rfl

theorem afterPowerOff_fixed (s : State) : (afterPowerOff s).fixed = s.fixed := by
  rw [afterPowerOff_frame]; rfl

theorem perform_setBrt_fixed (b : Byte) (s : State) : ((Micro.setBrt b).perform s).fixed = s.fixed := rfl

/-- An update writes levels, `POWER`, `BRT`, the working registers and the trace, and nothing else. -/
theorem afterUpdate_fixed (s : State) (b : Byte) (bl su : Bool) :
    (afterUpdate s b bl su).fixed = s.fixed := by
  rcases shouldBeOn_cases bl su with ⟨rfl, rfl, -⟩ | ⟨hflag, -⟩
  · rw [afterUpdate_on]
    cases s.handle.power with
    | on => rfl
    | off => exact (afterSend_fixed _ _).trans (afterPowerOn_fixed _)
  · rw [afterUpdate_off s b hflag]
    cases s.handle.power with
    | on => exact afterPowerOff_fixed _
    | off => rfl

@[simp] theorem afterPowerOn_handle (s : State) :
    (afterPowerOn s).handle = { s.handle with power := .on } := by
  rw [afterPowerOn_frame]

@[simp] theorem afterPowerOff_handle (s : State) :
    (afterPowerOff s).handle = { s.handle with power := .off } := by
  rw [afterPowerOff_frame]

/-- `POWER` is as wanted and `BRT` is the brightness asked for (D8). -/
@[simp] theorem afterUpdate_handle (s : State) (b : Byte) (bl su : Bool) :
    (afterUpdate s b bl su).handle = { s.handle with power := shouldBeOn bl su, brt := b } := by
  rcases shouldBeOn_cases bl su with ⟨rfl, rfl, hw⟩ | ⟨hflag, hw⟩
  · rw [hw, afterUpdate_on]
    cases hp : s.handle.power with
    | on => simp only [← hp]; rfl
    | off => exact afterPowerOn_handle ((Micro.setBrt b).perform s)
  · rw [hw, afterUpdate_off s b hflag]
    cases hp : s.handle.power with
    | on => exact afterPowerOff_handle ((Micro.setBrt b).perform s)
    | off => simp only [← hp]; rfl

@[simp] theorem afterUpdate_params (s : State) (b : Byte) (bl su : Bool) :
    (afterUpdate s b bl su).params = s.params :=
  eq_of_fixed_eq State.params (fun _ => rfl) (afterUpdate_fixed s b bl su)

@[simp] theorem afterUpdate_device (s : State) (b : Byte) (bl su : Bool) :
    (afterUpdate s b bl su).device = s.device :=
  eq_of_fixed_eq State.device (fun _ => rfl) (afterUpdate_fixed s b bl su)

@[simp] theorem afterUpdate_owned (s : State) (b : Byte) (bl su : Bool) :
    (afterUpdate s b bl su).owned = s.owned :=
  eq_of_fixed_eq State.owned (fun _ => rfl) (afterUpdate_fixed s b bl su)

@[simp] theorem afterUpdate_dirOut (s : State) (b : Byte) (bl su : Bool) :
    (afterUpdate s b bl su).dirOut = s.dirOut :=
  eq_of_fixed_eq State.dirOut (fun _ => rfl) (afterUpdate_fixed s b bl su)

@[simp] theorem afterUpdate_life (s : State) (b : Byte) (bl su : Bool) :
    (afterUpdate s b bl su).life = s.life :=
  eq_of_fixed_eq State.life (fun _ => rfl) (afterUpdate_fixed s b bl su)

@[simp] theorem afterUpdate_busy (s : State) (b : Byte) (bl su : Bool) :
    (afterUpdate s b bl su).busy = s.busy :=
  eq_of_fixed_eq State.busy (fun _ => rfl) (afterUpdate_fixed s b bl su)

@[simp] theorem afterUpdate_pending (s : State) (b : Byte) (bl su : Bool) :
    (afterUpdate s b bl su).pending = s.pending :=
  eq_of_fixed_eq State.pending (fun _ => rfl) (afterUpdate_fixed s b bl su)

/-- Two states with the same fixed part are ready together. -/
theorem ready_of_fixed_eq {s t : State} (h : Ready s) (hfix : t.fixed = s.fixed) : Ready t := by
  obtain ⟨hlife, hbusy, hpend⟩ := h
  exact ⟨(eq_of_fixed_eq State.life (fun _ => rfl) hfix).trans hlife,
    (eq_of_fixed_eq State.busy (fun _ => rfl) hfix).trans hbusy,
    (eq_of_fixed_eq State.pending (fun _ => rfl) hfix).trans hpend⟩

/-- An update leaves the block as ready as it was. -/
theorem ready_afterUpdate {s : State} (h : Ready s) (b : Byte) (bl su : Bool) :
    Ready (afterUpdate s b bl su) :=
  ready_of_fixed_eq h (afterUpdate_fixed s b bl su)

/-! ### What an update emits -/

/-- The events of an update (R151, R154). -/
def updateEvents (p : Params) (h : PanelHandle) (b : Byte) (bl su : Bool) : List Event :=
  match shouldBeOn bl su, h.power with
  | .on, .on => commandEvents p (setbrtCommand p b)
  | .on, .off => powerOnEvents p h ++ commandEvents p (setbrtCommand p b)
  | .off, .on => powerOffEvents p h
  | .off, .off => []

theorem afterSend_trace (s : State) (c : Command) :
    (afterSend s c).trace = s.trace ++ commandEvents s.params c := rfl

theorem afterUpdate_trace (s : State) (b : Byte) (bl su : Bool) :
    (afterUpdate s b bl su).trace = s.trace ++ updateEvents s.params s.handle b bl su := by
  rcases shouldBeOn_cases bl su with ⟨rfl, rfl, hw⟩ | ⟨hflag, hw⟩
  · rw [afterUpdate_on]
    cases hp : s.handle.power with
    | on => simp only [updateEvents, hw, hp]; rfl
    | off =>
      simp only [updateEvents, hw, hp, afterSend_trace, afterPowerOn_trace, afterPowerOn_params,
        List.append_assoc]
      rfl
  · rw [afterUpdate_off s b hflag]
    cases hp : s.handle.power with
    | on => simp only [updateEvents, hw, hp, afterPowerOff_trace]; rfl
    | off => simp only [updateEvents, hw, hp, List.append_nil]; rfl

/-! ### UPDATE, UPDATE_STATUS, GET_CURRENT_BRIGHTNESS -/

theorem exec_update (b : Byte) (bl su : Bool) (s : State) :
    exec (.update b bl su) s = runInternal s (updateSteps s.params s.handle b bl su) := rfl

theorem exec_updateStatus (b : Byte) (bl su : Bool) (s : State) :
    exec (.updateStatus b bl su) s =
      acceptAttached s (.setReq ⟨b, bl, su⟩ :: updateSteps s.params s.handle b bl su) .success := rfl

theorem exec_getCurrentBrightness (s : State) :
    exec .getCurrentBrightness s = acceptAttached s [] (.brightness (effectiveBrightness s.handle)) := rfl

/-- Settles O28: the steps of an update lead to `afterUpdate`. -/
theorem updateRuns : Obligations.UpdateRuns := by
  intro b bl su s hs
  rw [exec_update, ← runMicros_updateSteps]
  exact runInternal_next hs _

theorem runMicros_setReq_updateSteps (d : BrightnessDevice) (b : Byte) (bl su : Bool) (s : State) :
    runMicros (.setReq d :: updateSteps s.params s.handle b bl su) s =
      afterUpdate { s with device := d } b bl su :=
  runMicros_updateSteps b bl su { s with device := d }

/-- Settles O29: the inputs are latched, then the steps of an update run. -/
theorem updateStatusRuns : Obligations.UpdateStatusRuns := by
  intro b bl su s hs
  rw [exec_updateStatus, ← runMicros_setReq_updateSteps]
  exact acceptAttached_finish hs (by simp [Micro.isReturn]) .success

theorem getCurrentBrightness_finish {s : State} (hs : Ready s) :
    ∃ t, exec .getCurrentBrightness s = .next t ∧
      t.finish = { s with result := .brightness (effectiveBrightness s.handle) } :=
  acceptAttached_finish hs noReturn_nil _

/-- Settles O30: there is no step but the return; the admission refuses the rest. -/
theorem getCurrentBrightnessRuns : Obligations.GetCurrentBrightnessRuns := by
  refine fun s => ⟨fun hs => ?_, fun h => ?_⟩
  · obtain ⟨t, ht, hfin⟩ := getCurrentBrightness_finish hs
    exact ⟨t, ht, fun hon => by rw [hfin, effectiveBrightness, hon],
      fun hoff => by rw [hfin, effectiveBrightness, hoff]⟩
  · rw [exec_getCurrentBrightness]
    rcases acceptAttached_cases s [] (.brightness (effectiveBrightness s.handle)) with
      ⟨-, hr⟩ | ⟨-, -, hr⟩ | ⟨hbusy, hlife, -⟩
    · exact ⟨_, hr⟩
    · exact ⟨_, hr⟩
    · simp [hbusy, hlife] at h

/-- Settles O31: an update leaves `POWER` as wanted and `BRT` as given, and the block ready to be asked. -/
theorem brightnessReadBack : Obligations.BrightnessReadBack := by
  intro b bl su s hs
  obtain ⟨t, ht, hfin⟩ := updateStatusRuns b bl su s hs
  have hready : Ready t.finish := by
    rw [hfin]
    exact ready_afterUpdate (s := { s with device := ⟨b, bl, su⟩ }) hs b bl su
  obtain ⟨u, hu, hres⟩ := getCurrentBrightness_finish hready
  refine ⟨t, u, ht, hu, ?_⟩
  rw [hres, hfin]
  rcases shouldBeOn_cases bl su with ⟨rfl, rfl, hw⟩ | ⟨hflag, hw⟩
  · simp [effectiveBrightness, hw]
  · rcases hflag with rfl | rfl <;> simp [effectiveBrightness, hw]

theorem emits_updateStatus {s : State} (hs : Ready s) (b : Byte) (bl su : Bool) :
    Emits (.updateStatus b bl su) s (updateEvents s.params s.handle b bl su) := by
  obtain ⟨t, ht, hfin⟩ := updateStatusRuns b bl su s hs
  exact ⟨t, ht, by rw [hfin]; exact afterUpdate_trace _ b bl su⟩

/-! ### One transition and one brightness Command (R155 (d)) -/

theorem updateEvents_on_of_off (p : Params) {h : PanelHandle} (hp : h.power = .off) (b : Byte) :
    updateEvents p h b false false = powerOnEvents p h ++ commandEvents p (setbrtCommand p b) := by
  rw [updateEvents, hp]
  rfl

theorem updateEvents_on_of_on (p : Params) {h : PanelHandle} (hp : h.power = .on) (b : Byte) :
    updateEvents p h b false false = commandEvents p (setbrtCommand p b) := by
  rw [updateEvents, hp]
  rfl

/-- The two words of the "set brightness" Command (R77, R78). -/
theorem wordsOf_setbrtCommand (p : Params) (b : Byte) :
    wordsOf (setbrtCommand p b) = [0#1 ++ p.brightnessOpcode, 1#1 ++ b] := rfl

theorem carries_setbrtCommand (p : Params) (b : Byte) :
    Carries p (commandEvents p (setbrtCommand p b)) [0#1 ++ p.brightnessOpcode, 1#1 ++ b] :=
  wordsOf_setbrtCommand p b ▸ carries_commandEvents p (setbrtCommand p b)

/-- The panel powered on and its brightness set: the ON sequence, then the two brightness words. -/
theorem carries_powerOn_setbrt (p : Params) (h : PanelHandle) (b : Byte) :
    Carries p (powerOnEvents p h ++ commandEvents p (setbrtCommand p b))
      (h.onSeq.flatMap wordsOf ++ [0#1 ++ p.brightnessOpcode, 1#1 ++ b]) :=
  (carries_powerOnEvents p h).append (carries_setbrtCommand p b)

/-- Settles O32: the first update finds the panel OFF, the second finds it ON. -/
theorem oneTransitionOneBrightness : Obligations.OneTransitionOneBrightness := by
  intro b s hs hoff
  obtain ⟨t, ht, hfin⟩ := updateStatusRuns b false false s hs
  have htrace : t.finish.trace = s.trace ++
      (powerOnEvents s.params s.handle ++ commandEvents s.params (setbrtCommand s.params b)) := by
    rw [hfin, ← updateEvents_on_of_off s.params hoff]
    exact afterUpdate_trace { s with device := ⟨b, false, false⟩ } b false false
  have hready : Ready t.finish := by
    rw [hfin]
    exact ready_afterUpdate (s := { s with device := ⟨b, false, false⟩ }) hs b false false
  have hon : t.finish.handle.power = .on := by rw [hfin]; simp [shouldBeOn]
  have hparams : t.finish.params = s.params := by rw [hfin]; simp
  have hagain := emits_updateStatus hready b false false
  rw [updateEvents_on_of_on _ hon, hparams] at hagain
  have hwords : ∀ x ∈ commandEvents s.params (setbrtCommand s.params b), IsWordOrDelay x :=
    fun x hx => isWordOrDelay_of_mem_commandEvents hx
  refine ⟨t, _, _, ht, htrace, hagain, rfl, (carries_powerOn_setbrt s.params s.handle b).decodeTrace,
    (carries_setbrtCommand s.params b).decodeTrace, fun v hv => (hwords _ hv).ne_reset v rfl,
    fun r v hv => ?_⟩
  exact absurd (hwords _ hv).not_rail (by simp [isRail])

/-! ### SUSPEND and RESUME (R173, R175) -/

theorem exec_suspend (s : State) :
    exec .suspend s = acceptAttached s (suspendSteps s.params s.handle) .nothing := rfl

theorem exec_resume (s : State) :
    exec .resume s = acceptAttached s
      (updateSteps s.params s.handle s.device.reqBrt s.device.reqBlank s.device.reqSusp) .nothing := rfl

theorem noReturn_suspendSteps (p : Params) (h : PanelHandle) : NoReturn (suspendSteps p h) := by
  unfold suspendSteps
  split <;> simp

theorem runMicros_suspendSteps (s : State) :
    { runMicros (suspendSteps s.params s.handle) s with result := .nothing } = afterSuspend s := by
  unfold suspendSteps afterSuspend
  split <;> simp only [*, runMicros_powerOffSteps, runMicros_nil]

theorem suspend_finish {s : State} (hs : Ready s) :
    ∃ t, exec .suspend s = .next t ∧ t.finish = afterSuspend s := by
  rw [exec_suspend, ← runMicros_suspendSteps]
  exact acceptAttached_finish hs (noReturn_suspendSteps s.params s.handle) .nothing

/-- The events of suspend (R173, D6). -/
def suspendEvents (p : Params) (h : PanelHandle) : List Event :=
  match h.power, p.suspendWhenOff with
  | .on, _ => powerOffEvents p h
  | .off, .skip => []
  | .off, .replay => powerOffEvents p h

theorem afterSuspend_trace (s : State) :
    (afterSuspend s).trace = s.trace ++ suspendEvents s.params s.handle := by
  unfold afterSuspend suspendEvents
  split <;> simp only [*, afterPowerOff_trace, List.append_nil]

theorem emits_suspend {s : State} (hs : Ready s) :
    Emits .suspend s (suspendEvents s.params s.handle) := by
  obtain ⟨t, ht, hfin⟩ := suspend_finish hs
  exact ⟨t, ht, by rw [hfin, afterSuspend_trace]⟩

/-- A suspended panel is OFF. -/
theorem afterSuspend_handle (s : State) : (afterSuspend s).handle = { s.handle with power := .off } := by
  unfold afterSuspend
  split
  · exact afterPowerOff_handle s
  · next hp _ => simp only [← hp]
  · exact afterPowerOff_handle s

theorem afterSuspend_fixed (s : State) : (afterSuspend s).fixed = s.fixed := by
  unfold afterSuspend
  split
  · exact afterPowerOff_fixed s
  · rfl
  · exact afterPowerOff_fixed s

/-- Settles O38: the OFF transition touches neither `BRT` nor the device. -/
theorem suspendRuns : Obligations.SuspendRuns := by
  intro s hs
  obtain ⟨t, ht, hfin⟩ := suspend_finish hs
  refine ⟨t, ht, hfin, ?_, ?_⟩
  · rw [hfin, afterSuspend_handle]
  · rw [hfin]
    exact eq_of_fixed_eq State.device (fun _ => rfl) (afterSuspend_fixed s)

/-- Settles O39: RESUME runs the steps of an update with the latched inputs. -/
theorem resumeRuns : Obligations.ResumeRuns := by
  intro s hs
  rw [exec_resume, ← runMicros_updateSteps]
  exact acceptAttached_finish hs (by simp) .nothing

/-- Settles O33: each operation's events are a transition, a sequence, a Command of two words, or none. -/
theorem operationDurations : Obligations.OperationDurations := by
  intro b s hs
  obtain ⟨u, hu, hres⟩ := getCurrentBrightness_finish hs
  have hget : Emits .getCurrentBrightness s [] := ⟨u, hu, by rw [hres, List.append_nil]⟩
  have hbright : durMin (commandEvents s.params (setbrtCommand s.params b)) = 2 * wordUs s.params := by
    rw [durMin_commandEvents]
    simp [commandUs, setbrtCommand, Nat.mul_comm]
  refine ⟨_, _, _, _, emits_updateStatus hs b false false, emits_updateStatus hs b true false,
    emits_suspend hs, hget, rfl, fun hon => ⟨?_, ?_, ?_⟩, fun hoff => ⟨?_, ?_, ?_, ?_⟩⟩
  · rw [updateEvents_on_of_on _ hon, hbright]
  · rw [updateEvents, hon]
    exact durMin_powerOffEvents s.params s.handle
  · rw [suspendEvents, hon]
    exact durMin_powerOffEvents s.params s.handle
  · rw [updateEvents_on_of_off _ hoff, durMin_append, hbright, durMin_powerOnEvents]
  · rw [updateEvents, hoff]
    rfl
  · intro hskip
    rw [suspendEvents, hoff, hskip]
  · intro hreplay
    rw [suspendEvents, hoff, hreplay]
    exact durMin_powerOffEvents s.params s.handle

/-- Settles O40: the pair emits the two transitions and one brightness Command, and each leaves alone what it
does not write. -/
theorem suspendResumeRestores : Obligations.SuspendResumeRestores := by
  intro b s hs hon hdev
  obtain ⟨t, ht, hfin⟩ := suspend_finish hs
  have hfix : t.finish.fixed = s.fixed := by rw [hfin, afterSuspend_fixed]
  have hhandle : t.finish.handle = { s.handle with power := .off } := by rw [hfin, afterSuspend_handle]
  have htrace : t.finish.trace = s.trace ++ powerOffEvents s.params s.handle := by
    rw [hfin, afterSuspend_trace, suspendEvents, hon]
  have hdevice : t.finish.device = ⟨b, false, false⟩ := by
    rw [eq_of_fixed_eq State.device (fun _ => rfl) hfix, hdev]
  have hparams : t.finish.params = s.params := eq_of_fixed_eq State.params (fun _ => rfl) hfix
  obtain ⟨u, hu, hufin⟩ := resumeRuns t.finish (ready_of_fixed_eq hs hfix)
  rw [hdevice] at hufin
  have hufix : u.finish.fixed = s.fixed := by
    rw [hufin]
    exact (afterUpdate_fixed t.finish b false false).trans hfix
  refine ⟨t, u, ht, hu, by rw [hhandle], ?_, ?_, eq_of_fixed_eq State.device (fun _ => rfl) hufix,
    (ready_of_fixed_eq hs hufix).1, eq_of_fixed_eq State.owned (fun _ => rfl) hufix⟩
  · have hutrace : u.finish.trace = _ := (congrArg State.trace hufin).trans (afterUpdate_trace ..)
    rw [hutrace, htrace, hparams, updateEvents_on_of_off _ (by rw [hhandle]), hhandle]
    simp only [List.append_assoc]
    rfl
  · have huhandle : u.finish.handle = { t.finish.handle with power := .on, brt := b } :=
      (congrArg State.handle hufin).trans (afterUpdate_handle t.finish b false false)
    rw [huhandle, hhandle, ← hon]

end Sys2Proof.Machine
end

section
/-! SUPPORT. The steps of attach and detach: claims, outputs and releases of the lines, the choice of the
sequences. The statements of the Lifecycle Manager about them (O19, O34 to O37) follow. -/

namespace Sys2Proof.Machine

open Sys2Proof.Claims Sys2Proof.Safety

/-! ### Several lines at once -/

/-- The lines `ls` set in order, each to its value. -/
def setLines {α : Type} (f : Line → α) (ls : List Line) (x : Lines α) : Lines α :=
  ls.foldl (fun y l => setLine y l (f l)) x

theorem getLine_setLines {α : Type} (f : Line → α) (ls : List Line) (x : Lines α) (m : Line) :
    getLine (setLines f ls x) m = if m ∈ ls then f m else getLine x m := by
  induction ls generalizing x with
  | nil => rfl
  | cons l ls ih =>
    refine (ih (setLine x l (f l))).trans ?_
    by_cases hm : m ∈ ls
    · simp [hm]
    · by_cases hl : m = l
      · simp [hl]
      · simp [hm, hl]

theorem setLines_cons {α : Type} (f : Line → α) (l : Line) (ls : List Line) (x : Lines α) :
    setLines f (l :: ls) x = setLines f ls (setLine x l (f l)) := rfl

/-! ### Claims and outputs (R165, D16) -/

theorem perform_claim_true (l : Line) (s : State) :
    (claim l true).perform s =
      { s with owned := setLine s.owned l true, trace := s.trace ++ [.claim l true] } := rfl

theorem perform_claim_false (l : Line) (s : State) :
    (claim l false).perform s = { s with trace := s.trace ++ [.claim l false] } := rfl

theorem perform_dirOutput (l : Line) (v : Level) (s : State) :
    (dirOutput l v).perform s =
      { s with
        line := setLine s.line l v
        dirOut := setLine s.dirOut l true
        trace := s.trace ++ [.dir l v] } := rfl

/-- The steps of successful claims, by the policy. -/
def claimedSteps (p : Params) (ls : List Line) : List Micro :=
  ls.flatMap fun l => claim l true :: dirAfterClaim p l

/-- Every line claimable: all are claimed, and attach goes on. -/
theorem claimSteps_of_claimable (p : Params) {c : Lines Bool} (k : List Micro) {ls : List Line}
    (h : ∀ l ∈ ls, getLine c l = true) (claimed : List Line) :
    claimSteps p c k claimed ls = claimedSteps p ls ++ k := by
  induction ls generalizing claimed with
  | nil => rfl
  | cons l ls ih =>
    rw [claimSteps, if_pos (h l List.mem_cons_self), ih fun m hm => h m (List.mem_cons_of_mem l hm)]
    simp [claimedSteps]

/-- The first line that cannot be claimed: the claims before it, the failed claim, and the error. -/
theorem claimSteps_of_unclaimable (p : Params) {c : Lines Bool} (k : List Micro) {pre : List Line}
    (hpre : ∀ m ∈ pre, getLine c m = true) {l : Line} (hl : getLine c l = false) (post claimed : List Line) :
    claimSteps p c k claimed (pre ++ l :: post) =
      claimedSteps p pre ++ claim l false :: raiseResourceUnavailable (pre.reverse ++ claimed) l := by
  induction pre generalizing claimed with
  | nil => simp [claimSteps, hl, claimedSteps]
  | cons m pre ih =>
    rw [List.cons_append, claimSteps, if_pos (hpre m List.mem_cons_self),
      ih fun n hn => hpre n (List.mem_cons_of_mem m hn)]
    simp [claimedSteps]

theorem claimOrder_eq (l : Line) : ∃ post, claimOrder = claimedBefore l ++ l :: post := by
  cases l with
  | cs => exact ⟨_, rfl⟩
  | scl => exact ⟨_, rfl⟩
  | sda => exact ⟨_, rfl⟩
  | rst => exact ⟨_, rfl⟩

/-- Lines made outputs after all claims: a claim takes ownership, and nothing else (D16). -/
theorem runMicros_claimedSteps_afterAll {p : Params} (hp : p.dirOutPolicy = .afterAllClaims)
    (ls : List Line) (s : State) :
    runMicros (claimedSteps p ls) s =
      { s with
        owned := setLines (fun _ => true) ls s.owned
        trace := s.trace ++ ls.map fun m => .claim m true } := by
  induction ls generalizing s with
  | nil => simp [claimedSteps, setLines]
  | cons l ls ih =>
    have hsteps : claimedSteps p (l :: ls) = claim l true :: claimedSteps p ls := by
      simp [claimedSteps, dirAfterClaim, hp]
    rw [hsteps, runMicros_cons, ih, perform_claim_true]
    simp [setLines_cons]

/-- Each line made an output after its claim: it is owned and driven to its initial level (D16). -/
theorem runMicros_claimedSteps_afterEach {p : Params} (hp : p.dirOutPolicy = .afterEachClaim)
    (ls : List Line) (s : State) :
    runMicros (claimedSteps p ls) s =
      { s with
        owned := setLines (fun _ => true) ls s.owned
        dirOut := setLines (fun _ => true) ls s.dirOut
        line := setLines (initLevel p) ls s.line
        trace := s.trace ++ ls.flatMap fun m => [.claim m true, .dir m (initLevel p m)] } := by
  induction ls generalizing s with
  | nil => simp [claimedSteps, setLines]
  | cons l ls ih =>
    have hsteps : claimedSteps p (l :: ls) =
        claim l true :: dirOutput l (initLevel p l) :: claimedSteps p ls := by
      simp [claimedSteps, dirAfterClaim, hp]
    rw [hsteps, runMicros_cons, runMicros_cons, ih, perform_claim_true, perform_dirOutput]
    simp [setLines_cons]

theorem runMicros_map_dirOutput (f : Line → Level) (ls : List Line) (s : State) :
    runMicros (ls.map fun l => dirOutput l (f l)) s =
      { s with
        dirOut := setLines (fun _ => true) ls s.dirOut
        line := setLines f ls s.line
        trace := s.trace ++ ls.map fun l => .dir l (f l) } := by
  induction ls generalizing s with
  | nil => simp [setLines]
  | cons l ls ih =>
    rw [List.map_cons, runMicros_cons, ih, perform_dirOutput]
    simp [setLines_cons]

/-- All four lines claimed and driven to their initial levels, whichever the policy (R165). -/
def afterClaims (s : State) : State :=
  { s with
    owned := ⟨true, true, true, true⟩
    dirOut := ⟨true, true, true, true⟩
    line := ⟨csOff s.params, true, false, false⟩
    trace := s.trace ++ claimEvents s.params }

theorem runMicros_claims_outputs (s : State) :
    runMicros (claimedSteps s.params claimOrder ++ dirAfterClaims s.params) s = afterClaims s := by
  rw [runMicros_append]
  cases hp : s.params.dirOutPolicy with
  | afterAllClaims =>
    rw [runMicros_claimedSteps_afterAll hp]
    simp only [dirAfterClaims, hp, runMicros_map_dirOutput, afterClaims, claimEvents, List.append_assoc]
    rfl
  | afterEachClaim =>
    rw [runMicros_claimedSteps_afterEach hp]
    simp only [dirAfterClaims, hp, runMicros_nil, afterClaims, claimEvents]
    rfl

/-! ### Releases (R170, R192, D22) -/

theorem perform_release (l : Line) (s : State) : (release l).perform s = afterRelease s l := by
  unfold afterRelease
  split
  · next h => exact emit_rel_driven l s h
  · next h => exact emit_rel_undriven l s (Bool.eq_false_iff.mpr h)

theorem runMicros_map_release (ls : List Line) (s : State) :
    runMicros (ls.map release) s = ls.foldl afterRelease s := by
  induction ls generalizing s with
  | nil => rfl
  | cons l ls ih => rw [List.map_cons, runMicros_cons, perform_release, ih, List.foldl_cons]

theorem setLine_of_getLine {α : Type} {x : Lines α} {l : Line} {v : α} (h : getLine x l = v) :
    setLine x l v = x := by
  subst h
  cases l <;> rfl

/-- A released line is neither owned nor driven; its own level may be a free value, and nothing else changes. -/
theorem afterRelease_frame (s : State) (l : Line) :
    ∃ line draws, (∀ m, m ≠ l → getLine line m = getLine s.line m) ∧
      afterRelease s l =
        { s with
          owned := setLine s.owned l false
          dirOut := setLine s.dirOut l false
          line := line
          draws := draws
          trace := s.trace ++ [.rel l] } := by
  unfold afterRelease
  split
  · exact ⟨_, _, fun m hm => getLine_setLine_ne s.line _ hm, rfl⟩
  · next h =>
    refine ⟨s.line, s.draws, fun m _ => rfl, ?_⟩
    rw [setLine_of_getLine (Bool.eq_false_iff.mpr h)]

theorem foldl_afterRelease_frame (ls : List Line) (s : State) :
    ∃ line draws, (∀ m, m ∉ ls → getLine line m = getLine s.line m) ∧
      ls.foldl afterRelease s =
        { s with
          owned := setLines (fun _ => false) ls s.owned
          dirOut := setLines (fun _ => false) ls s.dirOut
          line := line
          draws := draws
          trace := s.trace ++ ls.map .rel } := by
  induction ls generalizing s with
  | nil => exact ⟨s.line, s.draws, fun m _ => rfl, by simp [setLines]⟩
  | cons l ls ih =>
    obtain ⟨line, draws, hline, hrel⟩ := afterRelease_frame s l
    obtain ⟨line', draws', hline', hfold⟩ := ih (afterRelease s l)
    refine ⟨line', draws', fun m hm => ?_, ?_⟩
    · rw [List.mem_cons, not_or] at hm
      rw [hline' m hm.2, hrel, hline m hm.1]
    · rw [List.foldl_cons, hfold, hrel]
      simp [setLines_cons]

/-- Lines that were never made outputs are released without a free value (assumption 31). -/
theorem foldl_afterRelease_undriven {ls : List Line} {s : State}
    (h : ∀ l ∈ ls, getLine s.dirOut l = false) :
    ls.foldl afterRelease s =
      { s with owned := setLines (fun _ => false) ls s.owned, trace := s.trace ++ ls.map .rel } := by
  induction ls generalizing s with
  | nil => simp [setLines]
  | cons l ls ih =>
    have hrel : afterRelease s l =
        { s with owned := setLine s.owned l false, trace := s.trace ++ [.rel l] } := by
      rw [afterRelease, h l List.mem_cons_self]
      rfl
    have hrest := ih (s := afterRelease s l) fun m hm => by
      rw [hrel]; exact h m (List.mem_cons_of_mem l hm)
    rw [List.foldl_cons, hrest, hrel]
    simp [setLines_cons]

/-! ### Which sequence attach makes active (R51, R165, R197) -/

theorem chooseSequence_eq_some {o : Option (List CommandRec)} {dflt q : List Command} :
    chooseSequence o dflt = some q ↔ Chosen o dflt q := by
  cases o with
  | none => simp [chooseSequence, Chosen, eq_comm]
  | some records => exact checkSequence_eq_some.trans eq_comm

/-- An override is well formed exactly when a sequence can be chosen. -/
theorem exists_chosen_iff (o : Option (List CommandRec)) (dflt : List Command) :
    (∃ q, Chosen o dflt q) ↔ wfOverride o = true := by
  cases o with
  | none => exact ⟨fun _ => rfl, fun _ => ⟨dflt, rfl⟩⟩
  | some records =>
    constructor
    · rintro ⟨q, rfl⟩
      refine List.all_eq_true.mpr fun c hc => ?_
      obtain ⟨c', -, rfl⟩ := List.mem_map.mp hc
      exact c'.2
    · intro h
      lift records to List Command using List.all_eq_true.mp h
      exact ⟨records, rfl⟩

/-! ### The three answers of attach (R165, R197, R205) -/

theorem exec_attach (cfg : AttachConfig) (s : State) : exec (.attach cfg) s = execAttach cfg s := rfl

theorem execAttach_of_busy (cfg : AttachConfig) {s : State} (h : s.busy = true) :
    execAttach cfg s = .refused .busy := by
  simp [execAttach, h]

theorem execAttach_of_attached (cfg : AttachConfig) {s : State} (hb : s.busy = false)
    (hl : s.life = .attached) : execAttach cfg s = .refused .alreadyAttached := by
  simp [execAttach, hb, hl]

/-- The steps of attach, once the sequences are chosen. -/
def attachSteps (p : Params) (cfg : AttachConfig) (on off : List Command) : List Micro :=
  claimSteps p cfg.claimable (createSteps p cfg on off) [] claimOrder

theorem execAttach_of_chosen {cfg : AttachConfig} {s : State} (hb : s.busy = false)
    (hl : s.life = .detached) {on off : List Command}
    (hon : Chosen cfg.onOverride s.params.defaultOnSeq on)
    (hoff : Chosen cfg.offOverride s.params.defaultOffSeq off) :
    execAttach cfg s = .next (State.start { s with busy := true } (attachSteps s.params cfg on off)) := by
  simp [execAttach, hb, hl, chooseSequence_eq_some.mpr hon, chooseSequence_eq_some.mpr hoff, attachSteps]

theorem exists_chosen_of_wf {cfg : AttachConfig} (h : cfg.wf = true) (s : State) :
    ∃ on off, Chosen cfg.onOverride s.params.defaultOnSeq on ∧
      Chosen cfg.offOverride s.params.defaultOffSeq off := by
  obtain ⟨hon, hoff⟩ := Bool.and_eq_true_iff.mp h
  obtain ⟨on, hon⟩ := (exists_chosen_iff _ s.params.defaultOnSeq).mpr hon
  obtain ⟨off, hoff⟩ := (exists_chosen_iff _ s.params.defaultOffSeq).mpr hoff
  exact ⟨on, off, hon, hoff⟩

theorem wf_of_chosen {cfg : AttachConfig} {s : State} {on off : List Command}
    (hon : Chosen cfg.onOverride s.params.defaultOnSeq on)
    (hoff : Chosen cfg.offOverride s.params.defaultOffSeq off) : cfg.wf = true :=
  Bool.and_eq_true_iff.mpr ⟨(exists_chosen_iff ..).mp ⟨on, hon⟩, (exists_chosen_iff ..).mp ⟨off, hoff⟩⟩

theorem execAttach_of_not_wf {cfg : AttachConfig} {s : State} (hb : s.busy = false)
    (hl : s.life = .detached) (hwf : cfg.wf = false) :
    execAttach cfg s = .refused .illFormedCommand := by
  simp only [execAttach, hb, hl, Bool.false_eq_true, if_false]
  split
  · next hon hoff =>
    have hwf' := wf_of_chosen (chooseSequence_eq_some.mp hon) (chooseSequence_eq_some.mp hoff)
    exact absurd hwf' (by simp [hwf])
  · rfl

/-- Attach has started only while neither busy nor attached, with both sequences chosen. -/
theorem execAttach_eq_next_iff {cfg : AttachConfig} {s t : State} :
    execAttach cfg s = .next t ↔ s.busy = false ∧ s.life = .detached ∧
      ∃ on off, Chosen cfg.onOverride s.params.defaultOnSeq on ∧
        Chosen cfg.offOverride s.params.defaultOffSeq off ∧
        t = State.start { s with busy := true } (attachSteps s.params cfg on off) := by
  constructor
  · intro h
    cases hb : s.busy with
    | true => rw [execAttach_of_busy cfg hb] at h; cases h
    | false =>
      cases hl : s.life with
      | attached => rw [execAttach_of_attached cfg hb hl] at h; cases h
      | detached =>
        cases hwf : cfg.wf with
        | false => rw [execAttach_of_not_wf hb hl hwf] at h; cases h
        | true =>
          obtain ⟨on, off, hon, hoff⟩ := exists_chosen_of_wf hwf s
          rw [execAttach_of_chosen hb hl hon hoff, Host.Outcome.next.injEq] at h
          rw [← h, hl]
          exact ⟨rfl, rfl, on, off, hon, hoff, rfl⟩
  · rintro ⟨hb, hl, on, off, hon, hoff, rfl⟩
    exact execAttach_of_chosen hb hl hon hoff

/-- Settles O19: the check of R75 fails in each of the three places. -/
theorem illFormedCommandRefused : Obligations.IllFormedCommandRefused := by
  refine ⟨fun c s h => ?_, fun cfg s hwf hb hl => ?_⟩
  · rw [exec_cmd, exec_send, execSend, checkCommand_of_not_wf h]
    exact ⟨rfl, rfl⟩
  · exact execAttach_of_not_wf hb hl hwf

/-- Settles O24: the target is compared with `POWER` before anything starts. -/
theorem setPowerToCurrentStateRefused : Obligations.SetPowerToCurrentStateRefused := by
  refine fun s => ⟨fun hon => ?_, fun hoff => ?_⟩
  · rw [exec_setPowerOn, execSetPowerOn, hon]
  · rw [exec_setPowerOff, execSetPowerOff, hoff]

/-! ### A successful attach (R165) -/

/-- The steps of attach between the outputs and its initial update. -/
def createdSteps (cfg : AttachConfig) (on off : List Command) : List Micro :=
  [.createHandle (newHandle cfg on off), lookup .vci cfg.found.vci, lookup .vdd3 cfg.found.vdd3,
    newDevice, .setReq newBrightness]

/-- The state they lead to. -/
def afterCreated (cfg : AttachConfig) (on off : List Command) (s : State) : State :=
  { s with
    handle := { newHandle cfg on off with present := cfg.found }
    device := newBrightness
    trace := s.trace ++ [.lookup .vci cfg.found.vci, .lookup .vdd3 cfg.found.vdd3, .bdNew] }

theorem runMicros_createdSteps (cfg : AttachConfig) (on off : List Command) (s : State) :
    runMicros (createdSteps cfg on off) s = afterCreated cfg on off s := by
  simp [createdSteps, afterCreated, lookup, newDevice, emitEvent, eventEffect, newHandle, setRail,
    Micro.perform]

/-- The block just before the initial update of attach. -/
def beforeUpdate (s : State) (cfg : AttachConfig) (on off : List Command) : State :=
  afterCreated cfg on off (afterClaims s)

theorem afterAttach_eq (s : State) (cfg : AttachConfig) (on off : List Command) :
    afterAttach s cfg on off =
      { afterUpdate (beforeUpdate s cfg on off) 255#8 false false with
        life := .attached
        result := .success } := rfl

/-- The steps of attach without its return. -/
def attachedSteps (p : Params) (cfg : AttachConfig) (on off : List Command) : List Micro :=
  (claimedSteps p claimOrder ++ dirAfterClaims p) ++
    createdSteps cfg on off ++
    updateSteps p { newHandle cfg on off with present := cfg.found } Config.defaultBrightness false false ++
    [.setLife .attached]

theorem attachSteps_of_claimable (p : Params) {cfg : AttachConfig}
    (h : ∀ l, getLine cfg.claimable l = true) (on off : List Command) :
    attachSteps p cfg on off = attachedSteps p cfg on off ++ [.ret .success] := by
  rw [attachSteps, claimSteps_of_claimable p _ fun l _ => h l]
  simp [createSteps, createdSteps, attachedSteps]

theorem noReturn_claimedSteps (p : Params) (ls : List Line) : NoReturn (claimedSteps p ls) := by
  intro m hm
  obtain ⟨l, -, hm⟩ := List.mem_flatMap.mp hm
  cases hp : p.dirOutPolicy <;> simp [dirAfterClaim, hp] at hm
  · rw [hm]; rfl
  · rcases hm with rfl | rfl <;> rfl

theorem noReturn_attachedSteps (p : Params) (cfg : AttachConfig) (on off : List Command) :
    NoReturn (attachedSteps p cfg on off) := by
  have hdirs : NoReturn (dirAfterClaims p) := by
    cases hp : p.dirOutPolicy <;> simp [dirAfterClaims, hp, claimOrder, dirOutput, Micro.isReturn]
  simp [attachedSteps, createdSteps, noReturn_claimedSteps, hdirs, lookup, newDevice, Micro.isReturn]

theorem perform_setLife (l : Life) (s : State) : (Micro.setLife l).perform s = { s with life := l } := rfl

/-- The steps of attach lead to the state R165 describes, but for the result. -/
theorem runMicros_attachedSteps (cfg : AttachConfig) (on off : List Command) (s : State) :
    { runMicros (attachedSteps s.params cfg on off) s with result := .success } =
      afterAttach s cfg on off := by
  have hupdate : runMicros (updateSteps s.params { newHandle cfg on off with present := cfg.found }
      Config.defaultBrightness false false) (afterCreated cfg on off (afterClaims s)) =
      afterUpdate (beforeUpdate s cfg on off) 255#8 false false :=
    runMicros_updateSteps 255#8 false false (beforeUpdate s cfg on off)
  rw [afterAttach_eq, attachedSteps, runMicros_append, runMicros_append, runMicros_append,
    runMicros_claims_outputs, runMicros_createdSteps, hupdate, runMicros_cons, runMicros_nil,
    perform_setLife]

theorem attach_finish {cfg : AttachConfig} {on off : List Command} {s : State} (hl : s.life = .detached)
    (hb : s.busy = false) (hp : s.pending = []) (hon : Chosen cfg.onOverride s.params.defaultOnSeq on)
    (hoff : Chosen cfg.offOverride s.params.defaultOffSeq off) (h : ∀ l, getLine cfg.claimable l = true) :
    ∃ t, exec (.attach cfg) s = .next t ∧ t.finish = afterAttach s cfg on off := by
  refine ⟨_, execAttach_of_chosen hb hl hon hoff, ?_⟩
  rw [attachSteps_of_claimable _ h, finish_accepted hb hp (noReturn_attachedSteps _ cfg on off),
    runMicros_attachedSteps]

/-- Settles O34: with every line claimable the steps of attach lead to `afterAttach`. -/
theorem attachRuns : Obligations.AttachRuns := by
  intro cfg on off s hl hb hp hon hoff hc
  exact attach_finish hl hb hp hon hoff fun l => by rw [hc]; cases l <;> rfl

/-- The events of a successful attach. -/
def attachEvents (p : Params) (cfg : AttachConfig) (on off : List Command) : List Event :=
  claimEvents p ++ [.lookup .vci cfg.found.vci, .lookup .vdd3 cfg.found.vdd3, .bdNew] ++
    (powerOnEvents p { newHandle cfg on off with present := cfg.found } ++
      commandEvents p (setbrtCommand p 255#8))

theorem afterAttach_trace (s : State) (cfg : AttachConfig) (on off : List Command) :
    (afterAttach s cfg on off).trace = s.trace ++ attachEvents s.params cfg on off := by
  have h : (afterAttach s cfg on off).trace = _ :=
    afterUpdate_trace (beforeUpdate s cfg on off) 255#8 false false
  rw [h, updateEvents_on_of_off _ rfl]
  simp only [attachEvents, beforeUpdate, afterCreated, afterClaims, List.append_assoc]

theorem mem_claimEvents {p : Params} {x : Event} (h : x ∈ claimEvents p) :
    (∃ l, x = .claim l true) ∨ ∃ l v, x = .dir l v := by
  cases hp : p.dirOutPolicy <;> simp only [claimEvents, hp, List.mem_cons, List.not_mem_nil, or_false] at h
  · rcases h with rfl | rfl | rfl | rfl | rfl | rfl | rfl | rfl <;> simp
  · rcases h with rfl | rfl | rfl | rfl | rfl | rfl | rfl | rfl <;> simp

theorem carries_attachEvents (p : Params) (cfg : AttachConfig) (on off : List Command) :
    Carries p (attachEvents p cfg on off)
      (on.flatMap wordsOf ++ [0#1 ++ p.brightnessOpcode, 1#1 ++ 255#8]) := by
  have hclaims : Carries p (claimEvents p) [] := carries_of_not_isSerial fun x hx => by
    rcases mem_claimEvents hx with ⟨l, rfl⟩ | ⟨l, v, rfl⟩ <;> rfl
  have hcreate : Carries p [.lookup .vci cfg.found.vci, .lookup .vdd3 cfg.found.vdd3, .bdNew] [] :=
    carries_of_not_isSerial (by simp [isSerial])
  exact (hclaims.append hcreate).append (carries_powerOn_setbrt p _ 255#8)

/-- With both regulators absent a power transition calls no rail (R136). -/
theorem not_isRail_of_mem_powerOnEvents {p : Params} {h : PanelHandle} (hp : h.present = ⟨false, false⟩)
    {x : Event} (hx : x ∈ powerOnEvents p h) : isRail x = false := by
  rw [powerOnEvents_eq, List.mem_append, List.mem_cons, List.mem_cons] at hx
  rcases hx with hx | rfl | rfl | hx
  · rcases mem_underResetEvents.mp hx with rfl | rfl | ⟨r, hr, rfl⟩
    · rfl
    · rfl
    · rw [hp] at hr; cases r <;> cases hr
  · rfl
  · rfl
  · exact (isWordOrDelay_of_mem_sequenceEvents hx).not_rail

/-- Settles O35: the state attach leaves is that of its initial update, and its trace carries the words. -/
theorem attachedInitialState : Obligations.AttachedInitialState := by
  intro cfg on off s hl hb hp hon hoff hc
  obtain ⟨t, ht, hfin⟩ := attachRuns cfg on off s hl hb hp hon hoff hc
  have hready : Ready t.finish := by
    rw [hfin]
    exact ⟨rfl, (afterUpdate_busy (beforeUpdate s cfg on off) 255#8 false false).trans hb,
      (afterUpdate_pending (beforeUpdate s cfg on off) 255#8 false false).trans hp⟩
  have hhandle : t.finish.handle = { newHandle cfg on off with present := cfg.found, power := .on } := by
    rw [hfin]
    exact afterUpdate_handle (beforeUpdate s cfg on off) 255#8 false false
  obtain ⟨u, hu, hres⟩ := getCurrentBrightness_finish hready
  refine ⟨t, u, _, ht, by rw [hfin, afterAttach_trace], hready.1, by rw [hfin]; rfl, by rw [hhandle], hu,
    by rw [hres, hhandle]; rfl, (carries_attachEvents s.params cfg on off).decodeTrace, fun hnone x hx => ?_⟩
  rw [attachEvents, List.mem_append, List.mem_append, List.mem_append] at hx
  rcases hx with (hx | hx) | hx | hx
  · rcases mem_claimEvents hx with ⟨l, rfl⟩ | ⟨l, v, rfl⟩ <;> rfl
  · simp only [List.mem_cons, List.not_mem_nil, or_false] at hx
    rcases hx with rfl | rfl | rfl <;> rfl
  · exact not_isRail_of_mem_powerOnEvents hnone hx
  · exact (isWordOrDelay_of_mem_commandEvents hx).not_rail

/-! ### A failed attach (R191, R192) -/

/-- The steps of an attach whose claim of `l` fails, without its return. -/
def rolledBackSteps (p : Params) (l : Line) : List Micro :=
  claimedSteps p (claimedBefore l) ++ claim l false :: (claimedBefore l).reverse.map release

theorem attachSteps_of_unclaimable (p : Params) {cfg : AttachConfig} {l : Line}
    (hbefore : ∀ m ∈ claimedBefore l, getLine cfg.claimable m = true)
    (hl : getLine cfg.claimable l = false) (on off : List Command) :
    attachSteps p cfg on off = rolledBackSteps p l ++ [.ret (.resourceUnavailable l)] := by
  obtain ⟨post, horder⟩ := claimOrder_eq l
  rw [attachSteps, horder, claimSteps_of_unclaimable p _ hbefore hl post []]
  simp [rolledBackSteps, raiseResourceUnavailable]

theorem noReturn_map_release (ls : List Line) : NoReturn (ls.map release) := by
  intro m hm
  obtain ⟨l, -, rfl⟩ := List.mem_map.mp hm
  rfl

theorem noReturn_rolledBackSteps (p : Params) (l : Line) : NoReturn (rolledBackSteps p l) := by
  rw [rolledBackSteps, noReturn_append, noReturn_cons]
  exact ⟨noReturn_claimedSteps p _, rfl, noReturn_map_release _⟩

/-- Lines taken and given back are as they were. -/
theorem setLines_release_claim {ls : List Line} {x : Lines Bool} (h : ∀ l, getLine x l = false) :
    setLines (fun _ => false) ls.reverse (setLines (fun _ => true) ls x) = x := by
  refine lines_ext fun l => ?_
  rw [getLine_setLines, getLine_setLines, h l]
  by_cases hl : l ∈ ls <;> simp [hl]

theorem runMicros_rolledBackSteps_afterAll {s : State} (hp : s.params.dirOutPolicy = .afterAllClaims)
    (hown : ∀ m, getLine s.owned m = false) (hdir : ∀ m, getLine s.dirOut m = false) (l : Line) :
    runMicros (rolledBackSteps s.params l) s =
      { s with
        trace := s.trace ++ (claimedBefore l).map (fun m => .claim m true) ++ [.claim l false] ++
          (claimedBefore l).reverse.map .rel } := by
  have hrel := foldl_afterRelease_undriven (ls := (claimedBefore l).reverse)
    (s := (claim l false).perform (runMicros (claimedSteps s.params (claimedBefore l)) s))
    fun m _ => by rw [perform_claim_false, runMicros_claimedSteps_afterAll hp]; exact hdir m
  rw [rolledBackSteps, runMicros_append, runMicros_cons, runMicros_map_release, hrel, perform_claim_false,
    runMicros_claimedSteps_afterAll hp]
  simp only [setLines_release_claim hown]

theorem runMicros_rolledBackSteps_afterEach {s : State} (hp : s.params.dirOutPolicy = .afterEachClaim)
    (hown : ∀ m, getLine s.owned m = false) (hdir : ∀ m, getLine s.dirOut m = false) (l : Line) :
    ∃ line draws, (∀ m, m ∉ claimedBefore l → getLine line m = getLine s.line m) ∧
      runMicros (rolledBackSteps s.params l) s =
        { s with
          line := line
          draws := draws
          trace := s.trace ++ (claimedBefore l).flatMap
              (fun m => [.claim m true, .dir m (initLevel s.params m)]) ++ [.claim l false] ++
            (claimedBefore l).reverse.map .rel } := by
  obtain ⟨line, draws, hline, hrel⟩ := foldl_afterRelease_frame (claimedBefore l).reverse
    ((claim l false).perform (runMicros (claimedSteps s.params (claimedBefore l)) s))
  refine ⟨line, draws, fun m hm => ?_, ?_⟩
  · rw [hline m (by simpa using hm), perform_claim_false, runMicros_claimedSteps_afterEach hp]
    simp only [getLine_setLines, hm, if_false]
  · rw [rolledBackSteps, runMicros_append, runMicros_cons, runMicros_map_release, hrel,
      perform_claim_false, runMicros_claimedSteps_afterEach hp]
    simp only [setLines_release_claim hown, setLines_release_claim hdir]

theorem attach_rollback_finish {cfg : AttachConfig} {l : Line} {s : State} (hl : s.life = .detached)
    (hb : s.busy = false) (hp : s.pending = []) (hwf : cfg.wf = true)
    (hbefore : ∀ m ∈ claimedBefore l, getLine cfg.claimable m = true)
    (hfail : getLine cfg.claimable l = false) :
    ∃ t, exec (.attach cfg) s = .next t ∧
      t.finish = { runMicros (rolledBackSteps s.params l) s with result := .resourceUnavailable l } := by
  obtain ⟨on, off, hon, hoff⟩ := exists_chosen_of_wf hwf s
  refine ⟨_, execAttach_of_chosen hb hl hon hoff, ?_⟩
  rw [attachSteps_of_unclaimable _ hbefore hfail, finish_accepted hb hp (noReturn_rolledBackSteps _ l)]

/-- Settles O36: what was claimed is released, and a line that was never driven keeps its latch. -/
theorem attachRollsBack : Obligations.AttachRollsBack := by
  intro cfg l s hl hb hp hwf hbefore hfail hown hdir
  have hown' : ∀ m, getLine s.owned m = false := fun m => by rw [hown]; cases m <;> rfl
  have hdir' : ∀ m, getLine s.dirOut m = false := fun m => by rw [hdir]; cases m <;> rfl
  obtain ⟨t, ht, hfin⟩ := attach_rollback_finish hl hb hp hwf hbefore hfail
  refine ⟨t, ht, fun hpol => ?_, fun hpol => ?_⟩
  · rw [hfin, runMicros_rolledBackSteps_afterAll hpol hown' hdir']
  · obtain ⟨line, draws, hline, hrun⟩ := runMicros_rolledBackSteps_afterEach hpol hown' hdir' l
    rw [hfin, hrun]
    exact ⟨rfl, hline⟩

/-! ### DETACH (R170) -/

theorem exec_detach (s : State) :
    exec .detach s = acceptAttached s (detachSteps s.params s.handle) .nothing := rfl

/-- OFF first if ON. -/
def afterForcedOff (s : State) : State :=
  match s.handle.power with
  | .on => afterPowerOff s
  | .off => s

theorem runMicros_forceOffSteps (s : State) :
    runMicros (forceOffSteps s.params s.handle) s = afterForcedOff s := by
  unfold forceOffSteps afterForcedOff
  cases s.handle.power with
  | on => exact runMicros_powerOffSteps s
  | off => rfl

theorem runMicros_releaseRegSteps (h : PanelHandle) (r : Rail) (s : State) :
    runMicros (releaseRegSteps h r) s =
      { s with trace := s.trace ++ if getRail h.present r then [.regRel r] else [] } := by
  unfold releaseRegSteps
  split <;> simp [releaseReg, emitEvent, eventEffect]

theorem noReturn_detachSteps (p : Params) (h : PanelHandle) : NoReturn (detachSteps p h) := by
  have hoff : NoReturn (forceOffSteps p h) := by
    cases hp : h.power <;> simp [forceOffSteps, hp]
  have hreg : ∀ r, NoReturn (releaseRegSteps h r) := by
    intro r
    unfold releaseRegSteps
    split <;> simp [releaseReg, Micro.isReturn]
  simp [detachSteps, hoff, hreg, noReturn_map_release, deleteDevice, Micro.isReturn, -List.map_reverse]

/-- The registers of the handle, the device and the working position are given up (R39, R170). -/
theorem runMicros_destroySteps (s : State) :
    runMicros [deleteDevice, .destroy, .setLife .detached] s =
      { s with
        life := .detached
        handle := Config.freeHandle s.draws
        device := Config.freeDevice s.draws
        work := Config.freeWork s.draws
        draws := s.draws + 1
        trace := s.trace ++ [.bdDel] } := rfl

theorem runMicros_detachSteps (s : State) :
    { runMicros (detachSteps s.params s.handle) s with result := .nothing } = afterDetach s := by
  simp only [detachSteps, runMicros_append, runMicros_forceOffSteps, runMicros_map_release,
    runMicros_releaseRegSteps, runMicros_destroySteps]
  rfl

/-- Settles O37: the steps of detach lead to `afterDetach`. -/
theorem detachRuns : Obligations.DetachRuns := by
  intro s hs
  rw [exec_detach, ← runMicros_detachSteps]
  exact acceptAttached_finish hs (noReturn_detachSteps s.params s.handle) .nothing

end Sys2Proof.Machine
end

section
/-! SUPPORT. Every instruction at once: which external operations are legal when (O41), the two granularities (O47,
O48), and what a run may change (O49, O51). -/

namespace Sys2Proof.Machine

open Sys2Proof.Claims Sys2Proof.Safety

/-! ### The external operations (R84, R205) -/

/-- At the first line that cannot be claimed, or at none. -/
theorem claimable_cases (c : Lines Bool) :
    (∀ l, getLine c l = true) ∨
    ∃ l, (∀ m ∈ claimedBefore l, getLine c m = true) ∧ getLine c l = false := by
  by_cases hcs : getLine c .cs = true
  · by_cases hscl : getLine c .scl = true
    · by_cases hsda : getLine c .sda = true
      · by_cases hrst : getLine c .rst = true
        · exact .inl fun l => by cases l <;> assumption
        · exact .inr ⟨.rst, by simp [claimedBefore, hcs, hscl, hsda], Bool.eq_false_iff.mpr hrst⟩
      · exact .inr ⟨.sda, by simp [claimedBefore, hcs, hscl], Bool.eq_false_iff.mpr hsda⟩
    · exact .inr ⟨.scl, by simp [claimedBefore, hcs], Bool.eq_false_iff.mpr hscl⟩
  · exact .inr ⟨.cs, by simp [claimedBefore], Bool.eq_false_iff.mpr hcs⟩

/-- The last step of attach is its only return. -/
theorem attachSteps_eq (p : Params) (cfg : AttachConfig) (on off : List Command) :
    ∃ ms r, NoReturn ms ∧ attachSteps p cfg on off = ms ++ [.ret r] := by
  rcases claimable_cases cfg.claimable with h | ⟨l, hbefore, hl⟩
  · exact ⟨_, _, noReturn_attachedSteps p cfg on off, attachSteps_of_claimable p h on off⟩
  · exact ⟨_, _, noReturn_rolledBackSteps p l, attachSteps_of_unclaimable p hbefore hl on off⟩

/-- An external operation other than attach is the admission of steps that return nothing themselves; the
granularity is not looked at. -/
theorem exec_eq_acceptAttached {i : Instr} (hext : i.external = true) (hne : ∀ cfg, i ≠ .attach cfg)
    (s : State) :
    ∃ ms r, NoReturn ms ∧
      ∀ b, exec i { s with stepwise := b } = acceptAttached { s with stepwise := b } ms r := by
  cases i with
  | updateStatus b bl su =>
    exact ⟨.setReq ⟨b, bl, su⟩ :: updateSteps s.params s.handle b bl su, .success,
      by simp [Micro.isReturn], fun _ => rfl⟩
  | getCurrentBrightness => exact ⟨[], .brightness (effectiveBrightness s.handle), noReturn_nil, fun _ => rfl⟩
  | attach cfg => exact absurd rfl (hne cfg)
  | detach =>
    exact ⟨detachSteps s.params s.handle, .nothing, noReturn_detachSteps _ _, fun _ => rfl⟩
  | suspend =>
    exact ⟨suspendSteps s.params s.handle, .nothing, noReturn_suspendSteps _ _, fun _ => rfl⟩
  | resume =>
    exact ⟨updateSteps s.params s.handle s.device.reqBrt s.device.reqBlank s.device.reqSusp, .nothing,
      by simp, fun _ => rfl⟩
  | _ => cases hext

theorem exec_refused_of_busy {i : Instr} (hext : i.external = true) {s : State} (hb : s.busy = true) :
    exec i s = .refused .busy := by
  by_cases h : ∃ cfg, i = .attach cfg
  · obtain ⟨cfg, rfl⟩ := h
    exact execAttach_of_busy cfg hb
  · obtain ⟨ms, r, -, hexec⟩ := exec_eq_acceptAttached hext (not_exists.mp h) s
    exact (hexec s.stepwise).trans (acceptAttached_of_busy hb ms r)

/-- Settles O41: attach tests `LIFE` itself, the others through the admission. -/
theorem lifecycleGating : Obligations.LifecycleGating := by
  intro i s hext hwf
  refine ⟨exec_refused_of_busy hext, ?attach, ?others⟩
  case attach =>
    rintro hb cfg rfl
    refine ⟨execAttach_of_attached cfg hb, fun hl => ?_⟩
    obtain ⟨on, off, hon, hoff⟩ := exists_chosen_of_wf hwf s
    exact ⟨_, execAttach_of_chosen hb hl hon hoff⟩
  case others =>
    intro hb hne
    obtain ⟨ms, r, -, hexec⟩ := exec_eq_acceptAttached hext hne s
    exact ⟨fun hl => (hexec s.stepwise).trans (acceptAttached_of_detached hb hl ms r),
      fun hl => ⟨_, (hexec s.stepwise).trans (acceptAttached_of_attached hb hl ms r)⟩⟩

/-- An external operation that has started runs steps of which the last is the only return. -/
theorem exec_external_eq_next {i : Instr} (hext : i.external = true) {s t : State}
    (h : exec i s = .next t) :
    ∃ ms r, NoReturn ms ∧ t = State.start { s with busy := true } (ms ++ [.ret r]) := by
  by_cases hi : ∃ cfg, i = .attach cfg
  · obtain ⟨cfg, rfl⟩ := hi
    obtain ⟨-, -, on, off, -, -, rfl⟩ := execAttach_eq_next_iff.mp h
    obtain ⟨ms, r, hms, hsteps⟩ := attachSteps_eq s.params cfg on off
    exact ⟨ms, r, hms, by rw [hsteps]⟩
  · obtain ⟨ms, r, hms, hexec⟩ := exec_eq_acceptAttached hext (not_exists.mp hi) s
    have hacc : acceptAttached s ms r = .next t := (hexec s.stepwise).symm.trans h
    rcases acceptAttached_cases s ms r with ⟨-, hr⟩ | ⟨-, -, hr⟩ | ⟨-, -, ha⟩
    · cases hr.symm.trans hacc
    · cases hr.symm.trans hacc
    · exact ⟨ms, r, hms, (Host.Outcome.next.inj (ha.symm.trans hacc)).symm⟩

/-! ### The two granularities (R36, D23) -/

/-- Whatever the granularity: refused for one reason, or started with one list of steps and one `BUSY`. -/
def Uniform (f : State → Host.Outcome State Fault Refusal) (s : State) : Prop :=
  (∃ r, ∀ b, f { s with stepwise := b } = .refused r) ∨
  (∃ ms c, ∀ b, f { s with stepwise := b } = .next (State.start { s with stepwise := b, busy := c } ms))

theorem uniform_execSend (c : CommandRec) (s : State) : Uniform (execSend c) s := by
  cases hwf : c.wf with
  | true => exact .inr ⟨sendSteps s.params ⟨c, hwf⟩, s.busy, fun b => execSend_of_wf hwf _⟩
  | false => exact .inl ⟨.illFormedCommand, fun b => by rw [execSend, checkCommand_of_not_wf hwf]⟩

theorem uniform_execAttach (cfg : AttachConfig) (s : State) : Uniform (execAttach cfg) s := by
  cases hb : s.busy with
  | true => exact .inl ⟨.busy, fun b => execAttach_of_busy cfg hb⟩
  | false =>
    cases hl : s.life with
    | attached => exact .inl ⟨.alreadyAttached, fun b => execAttach_of_attached cfg hb hl⟩
    | detached =>
      cases hwf : cfg.wf with
      | false => exact .inl ⟨.illFormedCommand, fun b => execAttach_of_not_wf hb hl hwf⟩
      | true =>
        obtain ⟨on, off, hon, hoff⟩ := exists_chosen_of_wf hwf s
        exact .inr ⟨attachSteps s.params cfg on off, true, fun b =>
          execAttach_of_chosen (s := { s with stepwise := b }) hb hl hon hoff⟩

theorem uniform_acceptAttached {f : State → Host.Outcome State Fault Refusal} {s : State}
    {ms : List Micro} {r : Result}
    (h : ∀ b, f { s with stepwise := b } = acceptAttached { s with stepwise := b } ms r) : Uniform f s := by
  rcases acceptAttached_cases s ms r with ⟨hb, -⟩ | ⟨hb, hl, -⟩ | ⟨hb, hl, -⟩
  · exact .inl ⟨.busy, fun b => (h b).trans
      (acceptAttached_of_busy (s := { s with stepwise := b }) hb ms r)⟩
  · exact .inl ⟨.notAttached, fun b => (h b).trans
      (acceptAttached_of_detached (s := { s with stepwise := b }) hb hl ms r)⟩
  · exact .inr ⟨ms ++ [Micro.ret r], true, fun b => (h b).trans
      (acceptAttached_of_attached (s := { s with stepwise := b }) hb hl ms r)⟩

/-- No instruction looks at the granularity. -/
theorem uniform_exec (i : Instr) (s : State) : Uniform (exec i) s := by
  have hext : i.external = true → (∀ cfg, i ≠ .attach cfg) → Uniform (exec i) s := fun hext hne => by
    obtain ⟨ms, r, -, h⟩ := exec_eq_acceptAttached hext hne s
    exact uniform_acceptAttached h
  cases i with
  | cword b => exact .inr ⟨wordSteps s.params (cwordBits b), s.busy, fun _ => rfl⟩
  | pword b => exact .inr ⟨wordSteps s.params (pwordBits b), s.busy, fun _ => rfl⟩
  | cmd c => exact uniform_execSend c s
  | setbrt b => exact .inr ⟨sendSteps s.params (setbrtCommand s.params b), s.busy, fun _ => rfl⟩
  | transmitWord w => exact .inr ⟨wordSteps s.params w, s.busy, fun _ => rfl⟩
  | send c => exact uniform_execSend c s
  | play q => exact .inr ⟨playSteps s.params s.handle q, s.busy, fun _ => rfl⟩
  | setPowerOn =>
    cases hp : s.handle.power with
    | on => exact .inl ⟨.powerAlreadyThere .on, fun b => (setPowerToCurrentStateRefused _).1 hp⟩
    | off =>
      exact .inr ⟨powerOnSteps s.params s.handle, s.busy,
        fun b => execSetPowerOn_of_off (s := { s with stepwise := b }) hp⟩
  | setPowerOff =>
    cases hp : s.handle.power with
    | on =>
      exact .inr ⟨powerOffSteps s.params s.handle, s.busy,
        fun b => execSetPowerOff_of_on (s := { s with stepwise := b }) hp⟩
    | off => exact .inl ⟨.powerAlreadyThere .off, fun b => (setPowerToCurrentStateRefused _).2 hp⟩
  | update b bl su => exact .inr ⟨updateSteps s.params s.handle b bl su, s.busy, fun _ => rfl⟩
  | attach cfg => exact uniform_execAttach cfg s
  | updateStatus | getCurrentBrightness | detach | suspend | resume => exact hext rfl nofun

/-- Taken one event a step, an operation that has started ends after as many steps as it has items, where they
lead. -/
theorem run_pending {s : State} :
    Sys2Proof.core.run s.pending.length s = .next s.finish := by
  rw [run_inFlight (Nat.le_refl _), List.take_length, List.drop_length]
  rfl

/-- Settles O47: both granularities run the same list of steps, and no step looks at the granularity. -/
theorem stepwiseReachesTheSameState : Obligations.StepwiseReachesTheSameState := by
  intro i s hw hp
  have hs : { s with stepwise := true } = s := by rw [← hw]
  rcases uniform_exec i s with ⟨r, h⟩ | ⟨ms, c, h⟩
  · have htrue : exec i s = .refused r := by rw [← h true, hs]
    refine ⟨fun t ht => (nomatch htrue.symm.trans ht), fun r' => ?_⟩
    rw [htrue, h false]
  · have htrue : exec i s = .next (State.start { s with busy := c } ms) := by
      have h' := h true
      rwa [hs, ← hw] at h'
    refine ⟨fun t ht => ?_, fun r' => ?_⟩
    · obtain rfl := Host.Outcome.next.inj (htrue.symm.trans ht)
      refine ⟨_, run_pending, ?_, ?_⟩
      · rw [finish_start (s := { s with busy := c }) hp, runMicros_pending]
        exact hp
      · rw [h false, finish_start (s := { s with busy := c }) hp, ← runMicros_setStepwise]
        rfl
    · rw [htrue, h false]
      exact ⟨nofun, nofun⟩

/-- Settles O48: `BUSY`, set at acceptance, is cleared by the last step and by no other. -/
theorem busyUntilReturn : Obligations.BusyUntilReturn := by
  intro i s t hext hw hp h k hk
  obtain ⟨ms, r, hms, rfl⟩ := exec_external_eq_next hext h
  rw [start_stepwise (s := { s with busy := true }) hw hp] at hk ⊢
  simp only [List.length_append, List.length_singleton] at hk ⊢
  refine ⟨_, run_inFlight (by simpa using hk), ?_⟩
  by_cases hlt : k < ms.length + 1
  · have hrun : NoReturn ((ms ++ [Micro.ret r]).take k) := by
      rw [List.take_append_of_le_length (Nat.lt_succ_iff.mp hlt)]
      exact fun m hm => hms m (List.mem_of_mem_take hm)
    have hbusy := runMicros_busy_of_noReturn hrun
      { s with busy := true, pending := (ms ++ [Micro.ret r]).drop k }
    exact ⟨⟨fun _ => hlt, fun _ => hbusy⟩, fun _ j hj => exec_refused_of_busy hj hbusy⟩
  · have htake : (ms ++ [Micro.ret r]).take k = ms ++ [.ret r] :=
      List.take_of_length_le (by simpa using Nat.le_of_not_lt hlt)
    refine ⟨⟨fun hb => ?_, fun hlt' => absurd hlt' hlt⟩, fun hlt' => absurd hlt' hlt⟩
    rw [htake, runMicros_append] at hb
    cases hb

/-! ### Latches and events (R32, R33) -/

/-- An event that may change the latch of a line. -/
def TouchesLine (l : Line) (e : Event) : Prop := (∃ v, e = .w l v) ∨ (∃ v, e = .dir l v) ∨ e = .rel l

/-- An event that may change the latch of a rail. -/
def TouchesRail (r : Rail) (e : Event) : Prop := ∃ v, e = .rail r v

theorem emit_line_of_not_touches {l : Line} {e : Event} (h : ¬TouchesLine l e) (s : State) :
    getLine (emitEvent e s).line l = getLine s.line l := by
  cases e with
  | w l' v => exact getLine_setLine_ne _ _ fun hl => h (.inl ⟨v, by rw [hl]⟩)
  | dir l' v => exact getLine_setLine_ne _ _ fun hl => h (.inr (.inl ⟨v, by rw [hl]⟩))
  | rel l' =>
    obtain ⟨line, draws, hline, hrel⟩ := afterRelease_frame s l'
    have hemit : emitEvent (.rel l') s = afterRelease s l' := perform_release l' s
    rw [hemit, hrel]
    exact hline l fun hl => h (.inr (.inr (by rw [hl])))
  | claim l' ok => cases ok <;> rfl
  | _ => rfl

theorem emit_railEn_of_not_touches {r : Rail} {e : Event} (h : ¬TouchesRail r e) (s : State) :
    getRail (emitEvent e s).railEn r = getRail s.railEn r := by
  cases e with
  | rail r' v => exact getRail_setRail_ne _ _ fun hr => h ⟨v, by rw [hr]⟩
  | rel l' =>
    obtain ⟨line, draws, -, hrel⟩ := afterRelease_frame s l'
    have hemit : emitEvent (.rel l') s = afterRelease s l' := perform_release l' s
    rw [hemit, hrel]
  | claim l' ok => cases ok <;> rfl
  | _ => rfl

theorem mem_microEvents {e : Event} {ms : List Micro} : e ∈ microEvents ms ↔ .emit e ∈ ms := by
  induction ms with
  | nil => simp [microEvents]
  | cons m ms ih => cases m <;> simp [microEvents, ih]

/-- A line latch that a run changes has an event of its line among those emitted. -/
theorem exists_touchesLine {ms : List Micro} {s : State} {l : Line}
    (h : getLine (runMicros ms s).line l ≠ getLine s.line l) : ∃ e ∈ microEvents ms, TouchesLine l e := by
  by_contra hnone
  refine h (runMicros_preserves (fun u => getLine u.line l) (fun m hm u => ?_) s)
  cases m with
  | emit e => exact emit_line_of_not_touches (fun ht => hnone ⟨e, mem_microEvents.mpr hm, ht⟩) u
  | _ => rfl

theorem exists_touchesRail {ms : List Micro} {s : State} {r : Rail}
    (h : getRail (runMicros ms s).railEn r ≠ getRail s.railEn r) :
    ∃ e ∈ microEvents ms, TouchesRail r e := by
  by_contra hnone
  refine h (runMicros_preserves (fun u => getRail u.railEn r) (fun m hm u => ?_) s)
  cases m with
  | emit e => exact emit_railEn_of_not_touches (fun ht => hnone ⟨e, mem_microEvents.mpr hm, ht⟩) u
  | _ => rfl

/-- Settles O51: a step that changes a latch emits an event of its line or rail. -/
theorem latchesFollowTheTrace : Obligations.LatchesFollowTheTrace := by
  intro i s t h hp
  obtain ⟨ms, rfl⟩ := exec_eq_next h
  rw [finish_start (s := { s with busy := i.external || s.busy }) hp]
  refine ⟨microEvents ms, runMicros_trace ms _, fun l hl => ?_, fun r hr => ?_⟩
  · obtain ⟨e, he, ⟨v, rfl⟩ | ⟨v, rfl⟩ | rfl⟩ := exists_touchesLine hl
    · exact .inl ⟨v, he⟩
    · exact .inr (.inl ⟨v, he⟩)
    · exact .inr (.inr he)
  · obtain ⟨e, he, v, rfl⟩ := exists_touchesRail hr
    exact ⟨v, he⟩

end Sys2Proof.Machine
end

section
/-! SUPPORT. What an external operation of a quiescent block leads to, said once for all seven outcomes
(`Completes`), and the shape in which every invariant of a host-driven run is proved from it. -/

namespace Sys2Proof.Machine

open Sys2Proof.Claims Sys2Proof.Safety

/-! ### The outcomes of the external operations -/

/-- The events of an attach whose claim of `l` fails (R192, D16). -/
def rollbackEvents (p : Params) (l : Line) : List Event :=
  (match p.dirOutPolicy with
    | .afterAllClaims => (claimedBefore l).map fun m => .claim m true
    | .afterEachClaim => (claimedBefore l).flatMap fun m => [.claim m true, .dir m (initLevel p m)]) ++
    [.claim l false] ++ (claimedBefore l).reverse.map .rel

/-- A failed attach of a block that owns no line leaves all but latches and free values as it was. -/
theorem runMicros_rolledBackSteps {s : State} (hown : ∀ m, getLine s.owned m = false)
    (hdir : ∀ m, getLine s.dirOut m = false) (l : Line) :
    ∃ line draws, runMicros (rolledBackSteps s.params l) s =
      { s with line := line, draws := draws, trace := s.trace ++ rollbackEvents s.params l } := by
  cases hp : s.params.dirOutPolicy with
  | afterAllClaims =>
    refine ⟨s.line, s.draws, ?_⟩
    rw [runMicros_rolledBackSteps_afterAll hp hown hdir]
    simp only [rollbackEvents, hp, List.append_assoc]
  | afterEachClaim =>
    obtain ⟨line, draws, -, hrun⟩ := runMicros_rolledBackSteps_afterEach hp hown hdir l
    refine ⟨line, draws, ?_⟩
    rw [hrun]
    simp only [rollbackEvents, hp, List.append_assoc]

/-- The states that the external operations of `s`, when they are accepted, finish in. -/
inductive Completes (s : State) : State → Prop
  | updateStatus (hl : s.life = .attached) (b : Byte) (bl su : Bool) :
    Completes s { afterUpdate { s with device := ⟨b, bl, su⟩ } b bl su with result := .success }
  | getCurrentBrightness (b : Byte) : Completes s { s with result := .brightness b }
  | attach (hl : s.life = .detached) (cfg : AttachConfig) (on off : List Command) :
    Completes s (afterAttach s cfg on off)
  | attachRolledBack (hl : s.life = .detached) (l : Line) (line : Lines Level) (draws : Nat) :
    Completes s
      { s with
        line := line
        draws := draws
        trace := s.trace ++ rollbackEvents s.params l
        result := .resourceUnavailable l }
  | detach (hl : s.life = .attached) : Completes s (afterDetach s)
  | suspend (hl : s.life = .attached) : Completes s (afterSuspend s)
  | resume (hl : s.life = .attached) :
    Completes s
      { afterUpdate s s.device.reqBrt s.device.reqBlank s.device.reqSusp with result := .nothing }

theorem finish_of_next {o : Host.Outcome State Fault Refusal} {t u : State} (h : o = .next t)
    (h' : ∃ t', o = .next t' ∧ t'.finish = u) : t.finish = u := by
  obtain ⟨t', ht', rfl⟩ := h'
  rw [Host.Outcome.next.inj (h.symm.trans ht')]

/-- An external operation other than attach that has started was legal. -/
theorem ready_of_exec_eq_next {i : Instr} (hext : i.external = true) (hne : ∀ cfg, i ≠ .attach cfg)
    {s t : State} (hp : s.pending = []) (h : exec i s = .next t) : Ready s := by
  obtain ⟨ms, r, -, hexec⟩ := exec_eq_acceptAttached hext hne s
  have hacc : acceptAttached s ms r = .next t := (hexec s.stepwise).symm.trans h
  rcases acceptAttached_cases s ms r with ⟨-, hr⟩ | ⟨-, -, hr⟩ | ⟨hb, hl, -⟩
  · cases hr.symm.trans hacc
  · cases hr.symm.trans hacc
  · exact ⟨hl, hb, hp⟩

/-- Every external operation that is accepted finishes in one of the seven ways. -/
theorem completes_of_exec {i : Instr} (hext : i.external = true) {s t : State} (hp : s.pending = [])
    (hown : s.life = .detached → ∀ m, getLine s.owned m = false ∧ getLine s.dirOut m = false)
    (h : exec i s = .next t) : Completes s t.finish := by
  have hready : (∀ cfg, i ≠ .attach cfg) → Ready s := fun hne => ready_of_exec_eq_next hext hne hp h
  cases i with
  | updateStatus b bl su =>
    have hs := hready nofun
    rw [finish_of_next h (updateStatusRuns b bl su s hs)]
    exact .updateStatus hs.1 b bl su
  | getCurrentBrightness =>
    rw [finish_of_next h (getCurrentBrightness_finish (hready nofun))]
    exact .getCurrentBrightness _
  | attach cfg =>
    obtain ⟨hb, hl, on, off, hon, hoff, -⟩ := execAttach_eq_next_iff.mp h
    rcases claimable_cases cfg.claimable with hall | ⟨l, hbefore, hfail⟩
    · rw [finish_of_next h (attach_finish hl hb hp hon hoff hall)]
      exact .attach hl cfg on off
    · obtain ⟨line, draws, hrun⟩ :=
        runMicros_rolledBackSteps (fun m => (hown hl m).1) (fun m => (hown hl m).2) l
      rw [finish_of_next h (attach_rollback_finish hl hb hp (wf_of_chosen hon hoff) hbefore hfail), hrun]
      exact .attachRolledBack hl l line draws
  | detach =>
    have hs := hready nofun
    rw [finish_of_next h (detachRuns s hs)]
    exact .detach hs.1
  | suspend =>
    have hs := hready nofun
    rw [finish_of_next h (suspend_finish hs)]
    exact .suspend hs.1
  | resume =>
    have hs := hready nofun
    rw [finish_of_next h (resumeRuns s hs)]
    exact .resume hs.1
  | _ => cases hext

/-! ### What detach leaves (R170) -/

def forcedOffEvents (p : Params) (h : PanelHandle) : List Event :=
  match h.power with
  | .on => powerOffEvents p h
  | .off => []

/-- The events of detach (R170). -/
def detachEvents (p : Params) (h : PanelHandle) : List Event :=
  forcedOffEvents p h ++ claimOrder.reverse.map .rel ++ (if h.present.vci then [.regRel .vci] else []) ++
    (if h.present.vdd3 then [.regRel .vdd3] else []) ++ [.bdDel]

theorem afterForcedOff_trace (s : State) :
    (afterForcedOff s).trace = s.trace ++ forcedOffEvents s.params s.handle := by
  unfold afterForcedOff forcedOffEvents
  cases s.handle.power with
  | on => exact afterPowerOff_trace s
  | off => exact (List.append_nil _).symm

theorem afterForcedOff_fixed (s : State) : (afterForcedOff s).fixed = s.fixed := by
  unfold afterForcedOff
  cases s.handle.power with
  | on => exact afterPowerOff_fixed s
  | off => rfl

theorem afterForcedOff_busy (s : State) : (afterForcedOff s).busy = s.busy :=
  eq_of_fixed_eq State.busy (fun _ => rfl) (afterForcedOff_fixed s)

theorem afterForcedOff_params (s : State) : (afterForcedOff s).params = s.params :=
  eq_of_fixed_eq State.params (fun _ => rfl) (afterForcedOff_fixed s)

/-- The state of detach after the four releases. -/
def afterReleases (s : State) : State := claimOrder.reverse.foldl afterRelease (afterForcedOff s)

theorem afterReleases_frame (s : State) :
    ∃ line draws, afterReleases s =
      { afterForcedOff s with
        owned := ⟨false, false, false, false⟩
        dirOut := ⟨false, false, false, false⟩
        line := line
        draws := draws
        trace := (afterForcedOff s).trace ++ claimOrder.reverse.map .rel } := by
  obtain ⟨line, draws, -, hrel⟩ := foldl_afterRelease_frame claimOrder.reverse (afterForcedOff s)
  exact ⟨line, draws, hrel⟩

theorem afterDetach_trace (s : State) :
    (afterDetach s).trace = s.trace ++ detachEvents s.params s.handle := by
  obtain ⟨line, draws, hrel⟩ := afterReleases_frame s
  have hdetach : (afterDetach s).trace = (afterReleases s).trace ++
      (if s.handle.present.vci then [.regRel .vci] else []) ++
      (if s.handle.present.vdd3 then [.regRel .vdd3] else []) ++ [.bdDel] := rfl
  rw [hdetach, hrel]
  simp only [afterForcedOff_trace, detachEvents, List.append_assoc]

theorem afterDetach_busy (s : State) : (afterDetach s).busy = s.busy := by
  obtain ⟨line, draws, hrel⟩ := afterReleases_frame s
  have hdetach : (afterDetach s).busy = (afterReleases s).busy := rfl
  rw [hdetach, hrel]
  exact afterForcedOff_busy s

theorem afterDetach_params (s : State) : (afterDetach s).params = s.params := by
  obtain ⟨line, draws, hrel⟩ := afterReleases_frame s
  have hdetach : (afterDetach s).params = (afterReleases s).params := rfl
  rw [hdetach, hrel]
  exact afterForcedOff_params s

theorem afterDetach_owned (s : State) : (afterDetach s).owned = ⟨false, false, false, false⟩ := by
  obtain ⟨line, draws, hrel⟩ := afterReleases_frame s
  have hdetach : (afterDetach s).owned = (afterReleases s).owned := rfl
  rw [hdetach, hrel]

theorem afterDetach_dirOut (s : State) : (afterDetach s).dirOut = ⟨false, false, false, false⟩ := by
  obtain ⟨line, draws, hrel⟩ := afterReleases_frame s
  have hdetach : (afterDetach s).dirOut = (afterReleases s).dirOut := rfl
  rw [hdetach, hrel]

end Sys2Proof.Machine
end

section
/-! SUPPORT. The invariants of a quiescent block (R34, R35, R39, R175) through every external operation (O49, O53,
O54), and the words a host-driven run carries (O57). -/

namespace Sys2Proof.Machine

open Sys2Proof.Claims Sys2Proof.Safety

/-! ### An invariant of host-driven runs, from the outcomes of the external operations -/

theorem quiescent_setRequests {s : State} (h : Quiescent s) (rs : List Request) :
    Quiescent { s with requests := rs } :=
  ⟨h.notBusy, h.ownsAll, h.ownsNone, h.serialIdle, h.whileOn, h.whileOff, h.inputs⟩

/-- A step of a host-driven run leaves the state everything finishes in as it was, or takes a request of the
host, and with it an external operation of the quiescent block. -/
theorem blockInv_step {s t : State} (hinv : BlockInv s) (h : step s = .next t) :
    HostScript t ∧ (t.finish = s.finish ∨
      ∃ rest, Completes { s.finish with requests := rest } t.finish) := by
  obtain ⟨hscript, hquiet⟩ := hinv
  rcases step_cases h with ⟨m, ms, hp, rfl⟩ | ⟨-, -, rfl⟩ | ⟨r, rest, i, hp, hr, hf, hexec⟩
  · refine ⟨?_, .inl (finish_perform m ms s hp)⟩
    rw [HostScript, perform_requests]
    exact hscript
  · exact ⟨hscript, .inl rfl⟩
  · rw [finish_of_idle hp] at hquiet ⊢
    have hhost : r.caller = .host := hscript r (by rw [hr]; exact List.mem_cons_self)
    have hext : i.external = true := mayInvoke_iff.mp (fetchRequest_ok hf).2 hhost
    refine ⟨?_, .inr ⟨rest, completes_of_exec (s := { s with requests := rest }) hext hp hquiet.ownsNone
      hexec⟩⟩
    obtain ⟨ms, rfl⟩ := exec_eq_next hexec
    rw [HostScript, start_requests]
    exact fun q hq => hscript q (by rw [hr]; exact List.mem_cons_of_mem r hq)

/-- What every external operation of a quiescent block keeps, a host-driven run keeps. -/
theorem blockInv_induction {P : State → Prop} (hreq : ∀ s rest, P s → P { s with requests := rest })
    (hcomp : ∀ s t, Quiescent s → P s → Completes s t → P t) {s t : State} (hinv : BlockInv s)
    (hs : P s.finish) (h : step s = .next t) : P t.finish := by
  rcases (blockInv_step hinv h).2 with heq | ⟨rest, hc⟩
  · rw [heq]; exact hs
  · exact hcomp _ _ (quiescent_setRequests hinv.2 rest) (hreq _ rest hs) hc

/-! ### The panel while ON and while OFF (R34, R35) -/

/-- CS deasserted, SCL 1, SDA bit 0 of the last word (R35). -/
def SerialIdle (s : State) : Prop :=
  s.line.cs = csOff s.params ∧ s.line.scl = true ∧ s.line.sda = s.work.shr.getLsbD 0

/-- Reset and the present rails at a level, `SP` at the end of a sequence: how a transition leaves the panel. -/
structure PanelAt (s : State) (v : Level) (sid : SeqId) : Prop where
  rst : s.line.rst = v
  rails : ∀ r, getRail s.handle.present r = true → getRail s.railEn r = v
  sp : s.work.sp = ⟨sid, (activeSeq s.handle sid).length⟩

/-- The command buffer and `SHR` after the "set brightness" Command of `BRT` (R34 (2), R152). -/
structure HoldsBrightness (s : State) : Prop where
  opcode : s.work.cb.opcode = s.params.brightnessOpcode
  count : s.work.cb.count = 1#4
  param : s.work.cb.param[0] = s.handle.brt
  delay : s.work.cb.postDelay = 0
  shr : s.work.shr = pwordBits s.handle.brt

theorem serialIdle_afterSend (s : State) (c : Command) : SerialIdle (afterSend s c) := ⟨rfl, rfl, rfl⟩

theorem serialIdle_foldl_afterSend {s : State} (h : SerialIdle s) (cs : List Command) :
    SerialIdle (cs.foldl afterSend s) := by
  induction cs generalizing s with
  | nil => exact h
  | cons c cs ih => exact ih (serialIdle_afterSend s c)

theorem serialIdle_afterPowerOff {s : State} (h : SerialIdle s) : SerialIdle (afterPowerOff s) := by
  have hplay : SerialIdle (afterPlay s .offSeq) := serialIdle_foldl_afterSend h s.handle.offSeq
  exact hplay

theorem getRail_railsAfter {h : PanelHandle} {r : Rail} (hr : getRail h.present r = true) (e : Level)
    (x : Rails Level) : getRail (railsAfter h e x) r = e := by
  cases r <;> exact if_pos hr

theorem panelAt_afterPowerOn (s : State) : PanelAt (afterPowerOn s) true .onSeq where
  rst := by rw [afterPowerOn_frame]
  rails r hr := by
    rw [afterPowerOn_handle] at hr
    rw [afterPowerOn_frame]
    exact getRail_railsAfter hr true s.railEn
  sp := by rw [afterPowerOn_handle]; rfl

theorem panelAt_afterPowerOff (s : State) : PanelAt (afterPowerOff s) false .offSeq where
  rst := by rw [afterPowerOff_frame]
  rails r hr := by
    rw [afterPowerOff_handle] at hr
    rw [afterPowerOff_frame]
    exact getRail_railsAfter hr false s.railEn
  sp := by rw [afterPowerOff_handle]; rfl

theorem PanelAt.afterSend {s : State} {v : Level} {sid : SeqId} (h : PanelAt s v sid) (c : Command) :
    PanelAt (afterSend s c) v sid :=
  ⟨h.rst, h.rails, h.sp⟩

theorem PanelAt.setBrt {s : State} {v : Level} {sid : SeqId} (h : PanelAt s v sid) (b : Byte) :
    PanelAt ((Micro.setBrt b).perform s) v sid := by
  refine ⟨h.rst, h.rails, ?_⟩
  rw [perform_setBrt_work, h.sp]
  cases sid <;> rfl

theorem holdsBrightness_afterSend (s : State) :
    HoldsBrightness (afterSend s (setbrtCommand s.params s.handle.brt)) where
  opcode := rfl
  count := rfl
  param := loadSlots_get [s.handle.brt] s.work.cb.param 0 (by decide)
  delay := rfl
  shr := rfl

/-- Wanted ON: the panel is ON, and the brightness Command of `BRT` was the last one sent. -/
theorem afterUpdate_wanted_on {s : State} (hon : s.handle.power = .on → PanelAt s true .onSeq) (b : Byte) :
    SerialIdle (afterUpdate s b false false) ∧ PanelAt (afterUpdate s b false false) true .onSeq ∧
      HoldsBrightness (afterUpdate s b false false) := by
  rw [afterUpdate_on]
  cases hp : s.handle.power with
  | on =>
    exact ⟨serialIdle_afterSend _ _, ((hon hp).setBrt b).afterSend _,
      holdsBrightness_afterSend ((Micro.setBrt b).perform s)⟩
  | off =>
    have hsent := holdsBrightness_afterSend (afterPowerOn ((Micro.setBrt b).perform s))
    rw [afterPowerOn_params, afterPowerOn_handle] at hsent
    exact ⟨serialIdle_afterSend _ _, (panelAt_afterPowerOn _).afterSend _, hsent⟩

/-- Wanted OFF: the panel is OFF, and the serial lines are idle if they were. -/
theorem afterUpdate_wanted_off {s : State} (hidle : SerialIdle s)
    (hoff : s.handle.power = .off → PanelAt s false .offSeq) (b : Byte) {bl su : Bool}
    (hflag : bl = true ∨ su = true) :
    SerialIdle (afterUpdate s b bl su) ∧ PanelAt (afterUpdate s b bl su) false .offSeq := by
  rw [afterUpdate_off s b hflag]
  cases hp : s.handle.power with
  | on => exact ⟨serialIdle_afterPowerOff hidle, panelAt_afterPowerOff _⟩
  | off => exact ⟨hidle, (hoff hp).setBrt b⟩

/-! ### Quiescence through every outcome -/

theorem panelAt_of_quiescent_on {s : State} (h : Quiescent s) (hl : s.life = .attached)
    (hp : s.handle.power = .on) : PanelAt s true .onSeq := by
  obtain ⟨hrst, hrails, hsp, -⟩ := h.whileOn hl hp
  exact ⟨hrst, hrails, hsp⟩

theorem panelAt_of_quiescent_off {s : State} (h : Quiescent s) (hl : s.life = .attached)
    (hp : s.handle.power = .off) : PanelAt s false .offSeq := by
  obtain ⟨hrst, hrails, hsp⟩ := h.whileOff hl hp
  exact ⟨hrst, hrails, hsp⟩

/-- An OFF panel that is attached. -/
theorem quiescent_of_off {s : State} (hb : s.busy = false) (hl : s.life = .attached)
    (hown : ∀ l, getLine s.owned l = true ∧ getLine s.dirOut l = true) (hidle : SerialIdle s)
    (hp : s.handle.power = .off) (hpanel : PanelAt s false .offSeq) : Quiescent s where
  notBusy := hb
  ownsAll _ := hown
  ownsNone h := by simp [hl] at h
  serialIdle _ := hidle
  whileOn _ h := by simp [hp] at h
  whileOff _ _ := ⟨hpanel.rst, hpanel.rails, hpanel.sp⟩
  inputs _ h := by simp [hp] at h

/-- An ON panel that is attached, its brightness sent and latched. -/
theorem quiescent_of_on {s : State} (hb : s.busy = false) (hl : s.life = .attached)
    (hown : ∀ l, getLine s.owned l = true ∧ getLine s.dirOut l = true) (hidle : SerialIdle s)
    (hp : s.handle.power = .on) (hpanel : PanelAt s true .onSeq) (hbright : HoldsBrightness s)
    (hdev : s.device = ⟨s.handle.brt, false, false⟩) : Quiescent s where
  notBusy := hb
  ownsAll _ := hown
  ownsNone h := by simp [hl] at h
  serialIdle _ := hidle
  whileOn _ _ := ⟨hpanel.rst, hpanel.rails, hpanel.sp, hbright.opcode, hbright.count, hbright.param,
    hbright.delay, hbright.shr⟩
  whileOff _ h := by simp [hp] at h
  inputs _ _ := by rw [hdev]; exact ⟨rfl, rfl, rfl⟩

/-- A detached block owns and drives nothing. -/
theorem quiescent_of_detached {s : State} (hb : s.busy = false) (hl : s.life = .detached)
    (hown : ∀ l, getLine s.owned l = false ∧ getLine s.dirOut l = false) : Quiescent s where
  notBusy := hb
  ownsAll h := by simp [hl] at h
  ownsNone _ := hown
  serialIdle h := by simp [hl] at h
  whileOn h := by simp [hl] at h
  whileOff h := by simp [hl] at h
  inputs h := by simp [hl] at h

/-- The result is no part of quiescence. -/
theorem quiescent_setResult {s : State} (h : Quiescent s) (r : Result) :
    Quiescent { s with result := r } :=
  ⟨h.notBusy, h.ownsAll, h.ownsNone, h.serialIdle, h.whileOn, h.whileOff, h.inputs⟩

/-- `LIFE` is no part of what the panel is like. -/
theorem PanelAt.setLife {s : State} {v : Level} {sid : SeqId} (h : PanelAt s v sid) (l : Life) :
    PanelAt { s with life := l } v sid :=
  ⟨h.rst, h.rails, h.sp⟩

theorem HoldsBrightness.setLife {s : State} (h : HoldsBrightness s) (l : Life) :
    HoldsBrightness { s with life := l } :=
  ⟨h.opcode, h.count, h.param, h.delay, h.shr⟩

/-- An update with the latched inputs, of a block that owns its lines, leaves it quiescent once it is
attached. -/
theorem quiescent_afterUpdate_setLife {s : State} {b : Byte} {bl su : Bool} (hdev : s.device = ⟨b, bl, su⟩)
    (hb : s.busy = false) (hown : ∀ l, getLine s.owned l = true ∧ getLine s.dirOut l = true)
    (hon : s.handle.power = .on → PanelAt s true .onSeq)
    (hwantedOff : shouldBeOn bl su = .off →
      SerialIdle s ∧ (s.handle.power = .off → PanelAt s false .offSeq)) :
    Quiescent { afterUpdate s b bl su with life := .attached } := by
  have hb' := (afterUpdate_busy s b bl su).trans hb
  have hown' : ∀ l, getLine (afterUpdate s b bl su).owned l = true ∧
      getLine (afterUpdate s b bl su).dirOut l = true := by
    rw [afterUpdate_owned, afterUpdate_dirOut]
    exact hown
  have hhandle := afterUpdate_handle s b bl su
  rcases shouldBeOn_cases bl su with ⟨rfl, rfl, hw⟩ | ⟨hflag, hw⟩
  · obtain ⟨hidle, hpanel, hbright⟩ := afterUpdate_wanted_on hon b
    exact quiescent_of_on hb' rfl hown' hidle (by rw [hhandle, hw]) (hpanel.setLife _) (hbright.setLife _)
      (by rw [afterUpdate_device, hdev, hhandle])
  · obtain ⟨hserial, hoff⟩ := hwantedOff hw
    obtain ⟨hidle, hpanel⟩ := afterUpdate_wanted_off hserial hoff b hflag
    exact quiescent_of_off hb' rfl hown' hidle (by rw [hhandle, hw]) (hpanel.setLife _)

/-- The same for a block that is attached already. -/
theorem quiescent_afterUpdate {s : State} {b : Byte} {bl su : Bool} (hdev : s.device = ⟨b, bl, su⟩)
    (hb : s.busy = false) (hl : s.life = .attached)
    (hown : ∀ l, getLine s.owned l = true ∧ getLine s.dirOut l = true)
    (hon : s.handle.power = .on → PanelAt s true .onSeq)
    (hoff : SerialIdle s ∧ (s.handle.power = .off → PanelAt s false .offSeq)) :
    Quiescent (afterUpdate s b bl su) := by
  have hq := quiescent_afterUpdate_setLife (s := s) (b := b) (bl := bl) (su := su) hdev hb hown hon
    fun _ => hoff
  have hl' := (afterUpdate_life s b bl su).trans hl
  rwa [← hl'] at hq

theorem quiescent_afterPowerOff {s : State} (h : Quiescent s) (hl : s.life = .attached) :
    Quiescent (afterPowerOff s) := by
  have hfix := afterPowerOff_fixed s
  refine quiescent_of_off ((eq_of_fixed_eq State.busy (fun _ => rfl) hfix).trans h.notBusy)
    ((eq_of_fixed_eq State.life (fun _ => rfl) hfix).trans hl) ?_
    (serialIdle_afterPowerOff (h.serialIdle hl)) (by rw [afterPowerOff_handle]) (panelAt_afterPowerOff s)
  rw [eq_of_fixed_eq State.owned (fun _ => rfl) hfix, eq_of_fixed_eq State.dirOut (fun _ => rfl) hfix]
  exact h.ownsAll hl

theorem quiescent_of_completes {s t : State} (h : Quiescent s) (hc : Completes s t) : Quiescent t := by
  cases hc with
  | updateStatus hl b bl su =>
    refine quiescent_setResult (quiescent_afterUpdate (s := { s with device := ⟨b, bl, su⟩ }) rfl h.notBusy hl
      (h.ownsAll hl) (fun hp => ?_) ⟨h.serialIdle hl, fun hp => ?_⟩) .success
    · obtain ⟨hrst, hrails, hsp⟩ := panelAt_of_quiescent_on h hl hp
      exact ⟨hrst, hrails, hsp⟩
    · obtain ⟨hrst, hrails, hsp⟩ := panelAt_of_quiescent_off h hl hp
      exact ⟨hrst, hrails, hsp⟩
  | getCurrentBrightness b => exact quiescent_setResult h _
  | attach hl cfg on off =>
    exact quiescent_setResult (quiescent_afterUpdate_setLife (s := beforeUpdate s cfg on off) rfl h.notBusy
      (fun l => by cases l <;> exact ⟨rfl, rfl⟩) nofun nofun) .success
  | attachRolledBack hl l line draws => exact quiescent_of_detached h.notBusy hl (h.ownsNone hl)
  | detach hl =>
    refine quiescent_of_detached ((afterDetach_busy s).trans h.notBusy) rfl fun l => ?_
    rw [afterDetach_owned, afterDetach_dirOut]
    cases l <;> exact ⟨rfl, rfl⟩
  | suspend hl =>
    unfold afterSuspend
    split
    · exact quiescent_setResult (quiescent_afterPowerOff h hl) .nothing
    · exact quiescent_setResult h .nothing
    · exact quiescent_setResult (quiescent_afterPowerOff h hl) .nothing
  | resume hl =>
    exact quiescent_setResult (quiescent_afterUpdate rfl h.notBusy hl (h.ownsAll hl)
      (panelAt_of_quiescent_on h hl) ⟨h.serialIdle hl, panelAt_of_quiescent_off h hl⟩) .nothing

/-- Settles O53: every outcome of an external operation of a quiescent block is quiescent. -/
theorem blockInvKept : Obligations.BlockInvKept := by
  intro s t hinv h
  exact ⟨(blockInv_step hinv h).1, blockInv_induction (fun _ rest hq => quiescent_setRequests hq rest)
    (fun _ _ hq _ hc => quiescent_of_completes hq hc) hinv hinv.2 h⟩

/-- Settles O54: at reset nothing is in flight, nothing is requested and nothing is owned. -/
theorem blockInvAtReset : Obligations.BlockInvAtReset :=
  ⟨nofun, quiescent_of_detached rfl rfl fun l => by cases l <;> exact ⟨rfl, rfl⟩⟩

/-! ### The words of a host-driven run (R56, R106) -/

theorem params_of_completes {s t : State} (hc : Completes s t) : t.params = s.params := by
  cases hc with
  | updateStatus hl b bl su => exact afterUpdate_params _ b bl su
  | getCurrentBrightness b => rfl
  | attach hl cfg on off => exact afterUpdate_params (beforeUpdate s cfg on off) 255#8 false false
  | attachRolledBack hl l line draws => rfl
  | detach hl => exact afterDetach_params s
  | suspend hl => exact eq_of_fixed_eq State.params (fun _ => rfl) (afterSuspend_fixed s)
  | resume hl => exact afterUpdate_params s _ _ _

/-- The words of an update: the sequence of its transition, the brightness words. -/
theorem carries_updateEvents (p : Params) (h : PanelHandle) (b : Byte) (bl su : Bool) :
    ∃ ws, Carries p (updateEvents p h b bl su) ws := by
  unfold updateEvents
  split
  · exact ⟨_, carries_setbrtCommand p b⟩
  · exact ⟨_, carries_powerOn_setbrt p h b⟩
  · exact ⟨_, carries_powerOffEvents p h⟩
  · exact ⟨_, carries_nil p⟩

theorem carries_suspendEvents (p : Params) (h : PanelHandle) : ∃ ws, Carries p (suspendEvents p h) ws := by
  unfold suspendEvents
  split
  · exact ⟨_, carries_powerOffEvents p h⟩
  · exact ⟨_, carries_nil p⟩
  · exact ⟨_, carries_powerOffEvents p h⟩

theorem carries_rollbackEvents (p : Params) (l : Line) : Carries p (rollbackEvents p l) [] := by
  refine carries_of_not_isSerial fun x hx => ?_
  rw [rollbackEvents, List.mem_append, List.mem_append] at hx
  rcases hx with (hx | hx) | hx
  · split at hx
    · obtain ⟨m, -, rfl⟩ := List.mem_map.mp hx
      rfl
    · obtain ⟨m, -, hx⟩ := List.mem_flatMap.mp hx
      simp only [List.mem_cons, List.not_mem_nil, or_false] at hx
      rcases hx with rfl | rfl <;> rfl
  · rw [List.mem_singleton.mp hx]
    rfl
  · obtain ⟨m, -, rfl⟩ := List.mem_map.mp hx
    rfl

theorem carries_detachEvents (p : Params) (h : PanelHandle) : ∃ ws, Carries p (detachEvents p h) ws := by
  have hoff : ∃ ws, Carries p (forcedOffEvents p h) ws := by
    unfold forcedOffEvents
    split
    · exact ⟨_, carries_powerOffEvents p h⟩
    · exact ⟨_, carries_nil p⟩
  have hrest : ∀ r, Carries p (if getRail h.present r then [.regRel r] else []) [] := fun r =>
    carries_of_not_isSerial fun x hx => by
      split at hx
      · rw [List.mem_singleton.mp hx]; rfl
      · cases hx
  have hrel : Carries p (claimOrder.reverse.map .rel) [] := carries_of_not_isSerial fun x hx => by
    obtain ⟨l, -, rfl⟩ := List.mem_map.mp hx
    rfl
  have hdel : Carries p [.bdDel] [] := carries_of_not_isSerial (by simp [isSerial])
  obtain ⟨ws, hws⟩ := hoff
  exact ⟨_, (((hws.append hrel).append (hrest .vci)).append (hrest .vdd3)).append hdel⟩

/-- An external operation carries whole words and leaves no frame open. -/
theorem carries_of_completes {s t : State} (hc : Completes s t) :
    ∃ e ws, t.trace = s.trace ++ e ∧ Carries s.params e ws := by
  cases hc with
  | updateStatus hl b bl su =>
    obtain ⟨ws, hws⟩ := carries_updateEvents s.params s.handle b bl su
    exact ⟨_, ws, afterUpdate_trace { s with device := ⟨b, bl, su⟩ } b bl su, hws⟩
  | getCurrentBrightness b => exact ⟨[], [], (List.append_nil _).symm, carries_nil _⟩
  | attach hl cfg on off =>
    exact ⟨_, _, afterAttach_trace s cfg on off, carries_attachEvents s.params cfg on off⟩
  | attachRolledBack hl l line draws => exact ⟨_, _, rfl, carries_rollbackEvents s.params l⟩
  | detach hl =>
    obtain ⟨ws, hws⟩ := carries_detachEvents s.params s.handle
    exact ⟨_, ws, afterDetach_trace s, hws⟩
  | suspend hl =>
    obtain ⟨ws, hws⟩ := carries_suspendEvents s.params s.handle
    exact ⟨_, ws, afterSuspend_trace s, hws⟩
  | resume hl =>
    obtain ⟨ws, hws⟩ := carries_updateEvents s.params s.handle s.device.reqBrt s.device.reqBlank
      s.device.reqSusp
    exact ⟨_, ws, afterUpdate_trace s _ _ _, hws⟩

/-- Words appended to whole frames are whole frames. -/
theorem wholeFrames_of_carries {s t : State} {e : List Event} {ws : List Word9} (hs : WholeFrames s)
    (htrace : t.trace = s.trace ++ e) (hparams : t.params = s.params) (hc : Carries s.params e ws) :
    WholeFrames t := by
  obtain ⟨hwords, hcs⟩ := hs
  obtain ⟨hout, hcs'⟩ := hc _ hcs
  rw [WholeFrames, decodeTrace, htrace, hparams, List.foldl_append]
  refine ⟨fun x hx => ?_, hcs'⟩
  rw [hout, List.mem_append] at hx
  rcases hx with hx | hx
  · exact hwords x hx
  · obtain ⟨w, -, rfl⟩ := List.mem_map.mp hx
    exact ⟨w, rfl⟩

/-- Settles O57: nothing is received at reset, and each external operation carries whole words. -/
theorem wholeFramesKept : Obligations.WholeFramesKept := by
  refine ⟨⟨nofun, nofun⟩, fun s t hinv hs h => ?_⟩
  refine blockInv_induction (P := WholeFrames) (fun _ _ hw => hw) (fun u v _ hw hc => ?_) hinv hs h
  obtain ⟨e, ws, htrace, hcarries⟩ := carries_of_completes hc
  exact wholeFrames_of_carries hw htrace (params_of_completes hc) hcarries

end Sys2Proof.Machine
end

section
/-! SUPPORT. The sequence store while attached (O49). -/

namespace Sys2Proof.Machine

open Sys2Proof.Claims Sys2Proof.Safety

/-- Two handles with the same sequences, line identifiers and presence of the rails (R28, R51). -/
def SameStore (h h' : PanelHandle) : Prop :=
  h'.onSeq = h.onSeq ∧ h'.offSeq = h.offSeq ∧ h'.lineId = h.lineId ∧ h'.present = h.present

theorem sameStore_of_eq {h h' : PanelHandle} {p : Power} {b : Byte}
    (heq : h' = { h with power := p, brt := b }) : SameStore h h' := by
  rw [heq]
  exact ⟨rfl, rfl, rfl, rfl⟩

theorem afterPlay_handle (s : State) (sid : SeqId) : (afterPlay s sid).handle = s.handle := by
  rw [afterPlay_frame]

/-- An internal operation writes at most `POWER` and `BRT` of the handle. -/
theorem sameStore_of_internal {i : Instr} (hint : i.external = false) {s t : State} (hp : s.pending = [])
    (h : exec i s = .next t) : SameStore s.handle t.finish.handle := by
  have hsend : ∀ c, execSend c s = .next t → SameStore s.handle t.finish.handle := by
    intro c hc
    cases hwf : c.wf with
    | false => rw [execSend, checkCommand_of_not_wf hwf] at hc; cases hc
    | true =>
      rw [finish_of_next hc (sendRuns c hwf s hp)]
      exact ⟨rfl, rfl, rfl, rfl⟩
  cases i with
  | cword b => rw [finish_of_next h (wordFormsRun b s hp).1]; exact ⟨rfl, rfl, rfl, rfl⟩
  | pword b => rw [finish_of_next h (wordFormsRun b s hp).2]; exact ⟨rfl, rfl, rfl, rfl⟩
  | transmitWord w => rw [finish_of_next h (transmitWordRuns w s hp)]; exact ⟨rfl, rfl, rfl, rfl⟩
  | cmd c => exact hsend c h
  | send c => exact hsend c h
  | setbrt b => rw [finish_of_next h (commandFormsRun.2 b s hp)]; exact ⟨rfl, rfl, rfl, rfl⟩
  | play sid =>
    rw [finish_of_next h (playRuns sid s hp), afterPlay_handle]
    exact ⟨rfl, rfl, rfl, rfl⟩
  | setPowerOn =>
    cases hpow : s.handle.power with
    | on => rw [(setPowerToCurrentStateRefused s).1 hpow] at h; cases h
    | off =>
      rw [finish_of_next h (setPowerOnRuns s hp hpow)]
      exact sameStore_of_eq (afterPowerOn_handle s)
  | setPowerOff =>
    cases hpow : s.handle.power with
    | on =>
      rw [finish_of_next h (setPowerOffRuns s hp hpow)]
      exact sameStore_of_eq (afterPowerOff_handle s)
    | off => rw [(setPowerToCurrentStateRefused s).2 hpow] at h; cases h
  | update b bl su =>
    rw [finish_of_next h (updateRuns b bl su s hp)]
    exact sameStore_of_eq (afterUpdate_handle s b bl su)
  | _ => cases hint

/-- An external operation that starts and ends attached is neither attach nor detach. -/
theorem sameStore_of_completes {s t : State} (hs : s.life = .attached) (ht : t.life = .attached)
    (hc : Completes s t) : SameStore s.handle t.handle := by
  cases hc with
  | updateStatus hl b bl su => exact sameStore_of_eq (afterUpdate_handle _ b bl su)
  | getCurrentBrightness b => exact ⟨rfl, rfl, rfl, rfl⟩
  | attach hl cfg on off => rw [hl] at hs; cases hs
  | attachRolledBack hl l line draws => rw [hl] at hs; cases hs
  | detach hl => cases ht
  | suspend hl => exact sameStore_of_eq (afterSuspend_handle s)
  | resume hl => exact sameStore_of_eq (afterUpdate_handle s _ _ _)

/-- No step writes a parameter (R6). -/
theorem step_params {s t : State} (h : step s = .next t) : t.params = s.params := by
  rcases step_cases h with ⟨m, ms, -, rfl⟩ | ⟨-, -, rfl⟩ | ⟨r, rest, i, -, -, -, hexec⟩
  · exact perform_params m _
  · rfl
  · obtain ⟨ms, rfl⟩ := exec_eq_next hexec
    exact start_params _ ms

/-- Settles O49: only attach and detach write the store, and neither starts and ends attached. -/
theorem storeIsReadOnly : Obligations.StoreIsReadOnly := by
  refine ⟨fun _ _ => step_params, fun i s t h hp hs ht => ?_⟩
  cases hi : i.external with
  | false => exact sameStore_of_internal hi hp h
  | true =>
    exact sameStore_of_completes hs ht
      (completes_of_exec hi hp (fun hl => nomatch hs.symm.trans hl) h)

end Sys2Proof.Machine
end

section
/-! SUPPORT. The hazard monitor (R226, R230, R231) along the events of words, transitions and the external
operations (O55, O56). -/

namespace Sys2Proof.Machine

open Sys2Proof.Claims Sys2Proof.Safety

/-! ### Events that only send -/

/-- Every rule was kept, no hold after a serial write is due, and all lines are owned. -/
structure SoundMonitor (m : Monitor) : Prop where
  ok : m.ok = true
  held : m.serialDue = false
  owned : ∀ l, getLine m.owned l = true

/-- Along these events a sound monitor of a settled panel keeps every rule and changes at most whether a hold
after a reset or a rail call is due. -/
def Sends (p : Params) (e : List Event) : Prop :=
  ∀ m : Monitor, SoundMonitor m → m.phase = .settled →
    ∃ b, e.foldl (monStep p) m = { m with holdDue := b }

theorem SoundMonitor.setHoldDue {m : Monitor} (h : SoundMonitor m) (b : Bool) :
    SoundMonitor { m with holdDue := b } :=
  ⟨h.ok, h.held, h.owned⟩

theorem sends_nil (p : Params) : Sends p [] := fun m _ _ => ⟨m.holdDue, rfl⟩

theorem Sends.append {p : Params} {e e' : List Event} (h : Sends p e) (h' : Sends p e') :
    Sends p (e ++ e') := by
  intro m hm hphase
  obtain ⟨b, hb⟩ := h m hm hphase
  obtain ⟨b', hb'⟩ := h' _ (hm.setHoldDue b) hphase
  exact ⟨b', by rw [List.foldl_append, hb, hb']⟩

theorem Sends.flatMap {α : Type} {p : Params} {f : α → List Event} (h : ∀ a, Sends p (f a)) (as : List α) :
    Sends p (as.flatMap f) := by
  induction as with
  | nil => exact sends_nil p
  | cons a as ih => exact (h a).append ih

theorem sends_bitEvents (p : Params) (w : Word9) (i : Nat) : Sends p (bitEvents w i) := by
  intro m hm hphase
  have hscl : m.owned.scl = true := hm.owned .scl
  have hsda : m.owned.sda = true := hm.owned .sda
  refine ⟨false, ?_⟩
  simp [bitEvents, monStep, hm.ok, hm.held, hscl, hsda, hphase]

theorem sends_openEvents (p : Params) : Sends p (openEvents p) := by
  intro m hm hphase
  have hcs : m.owned.cs = true := hm.owned .cs
  have hscl : m.owned.scl = true := hm.owned .scl
  refine ⟨false, ?_⟩
  cases hp : p.holdAfterCsAssert <;>
    simp [openEvents, hp, monStep, holdRequired, hm.ok, hm.held, hcs, hscl, hphase]

theorem sends_closeEvents (p : Params) : Sends p (closeEvents p) := by
  intro m hm hphase
  have hcs : m.owned.cs = true := hm.owned .cs
  refine ⟨false, ?_⟩
  simp [closeEvents, monStep, hm.ok, hm.held, hcs, hphase]

theorem sends_wordEvents (p : Params) (w : Word9) : Sends p (wordEvents p w) := by
  rw [wordEvents_eq]
  exact ((sends_openEvents p).append (Sends.flatMap (sends_bitEvents p w) bitOrder)).append
    (sends_closeEvents p)

theorem sends_commandEvents (p : Params) (c : Command) : Sends p (commandEvents p c) := by
  refine (Sends.flatMap (sends_wordEvents p) (wordsOf c)).append fun m hm hphase => ⟨m.holdDue, ?_⟩
  split
  · rfl
  · have hsettled : ¬(m.phase = .released ∧ Config.settleMs ≤ c.1.postDelay) := by simp [hphase]
    exact if_neg hsettled

theorem sends_sequenceEvents (p : Params) (q : List Command) : Sends p (sequenceEvents p q) :=
  Sends.flatMap (sends_commandEvents p) q

/-! ### The two transitions (R134, R230, R231) -/

/-- What the monitor remembers of a panel: ON, it is settled, and VDD3 is enabled only where it is present; OFF,
reset is asserted and VDD3 is not enabled. -/
structure Tracks (m : Monitor) (q : Power) (vdd3Present : Bool) : Prop where
  sound : SoundMonitor m
  on : q = .on → m.phase = .settled ∧ (m.vdd3On = true → vdd3Present = true)
  off : q = .off → m.phase = .asserted ∧ m.vdd3On = false

theorem Tracks.of_sends {p : Params} {e : List Event} {m : Monitor} {v : Bool} (h : Tracks m .on v)
    (he : Sends p e) : Tracks (e.foldl (monStep p) m) .on v := by
  obtain ⟨hphase, hvdd3⟩ := h.on rfl
  obtain ⟨b, hb⟩ := he m h.sound hphase
  rw [hb]
  exact ⟨h.sound.setHoldDue b, fun _ => ⟨hphase, hvdd3⟩, nofun⟩

theorem foldl_monStep_riseEvents (p : Params) (h : PanelHandle) {m : Monitor} (hm : SoundMonitor m)
    (hvdd3 : m.vdd3On = false) :
    (riseEvents h).foldl (monStep p) m =
      { m with phase := .settled, holdDue := false, vdd3On := h.present.vdd3 } := by
  have hrst : m.owned.rst = true := hm.owned .rst
  cases hv : h.present.vci <;> cases hd : h.present.vdd3 <;>
    simp [riseEvents, railEvents, getRail, hv, hd, monStep, rstOn, Config.settleMs, hm.ok, hm.held, hrst,
      hvdd3]

/-- After its sequence the way down asserts reset and disables the present rails, VDD3 first. -/
theorem foldl_monStep_fallEvents (p : Params) (h : PanelHandle) {m : Monitor} (hm : SoundMonitor m)
    (hvdd3 : m.vdd3On = true → h.present.vdd3 = true) :
    (fallEvents h).foldl (monStep p) m =
      { m with phase := .asserted, holdDue := true, vdd3On := false } := by
  have hrst : m.owned.rst = true := hm.owned .rst
  cases hd : h.present.vdd3 with
  | true =>
    cases hv : h.present.vci <;>
      simp [fallEvents, railEvents, getRail, hv, hd, monStep, rstOn, hm.ok, hrst]
  | false =>
    have hoff : m.vdd3On = false := Bool.eq_false_iff.mpr fun hon => by simp [hvdd3 hon] at hd
    cases hv : h.present.vci <;>
      simp [fallEvents, railEvents, getRail, hv, hd, monStep, rstOn, hm.ok, hrst, hoff]

/-- The way up, from any sound monitor that has VDD3 not enabled. -/
theorem tracks_powerOnEvents (p : Params) (h : PanelHandle) {m : Monitor} (hm : SoundMonitor m)
    (hvdd3 : m.vdd3On = false) : Tracks ((powerOnEvents p h).foldl (monStep p) m) .on h.present.vdd3 := by
  rw [powerOnEvents, List.foldl_append, foldl_monStep_riseEvents p h hm hvdd3]
  exact Tracks.of_sends ⟨⟨hm.ok, hm.held, hm.owned⟩, fun _ => ⟨rfl, id⟩, nofun⟩
    (sends_sequenceEvents p h.onSeq)

theorem tracks_powerOffEvents (p : Params) (h : PanelHandle) {m : Monitor}
    (ht : Tracks m .on h.present.vdd3) :
    Tracks ((powerOffEvents p h).foldl (monStep p) m) .off h.present.vdd3 := by
  have hseq := ht.of_sends (sends_sequenceEvents p h.offSeq)
  rw [powerOffEvents, List.foldl_append, foldl_monStep_fallEvents p h hseq.sound (hseq.on rfl).2]
  exact ⟨⟨hseq.sound.ok, hseq.sound.held, hseq.sound.owned⟩, nofun, fun _ => ⟨rfl, rfl⟩⟩

/-- An update keeps every rule, and the monitor follows it to the wanted power state. -/
theorem tracks_updateEvents (p : Params) (h : PanelHandle) (b : Byte) (bl su : Bool) {m : Monitor}
    (ht : Tracks m h.power h.present.vdd3) :
    Tracks ((updateEvents p h b bl su).foldl (monStep p) m) (shouldBeOn bl su) h.present.vdd3 := by
  have hbright := sends_commandEvents p (setbrtCommand p b)
  cases hw : shouldBeOn bl su <;> cases hp : h.power <;> simp only [updateEvents, hw, hp] <;> rw [hp] at ht
  · exact ht
  · exact tracks_powerOffEvents p h ht
  · rw [List.foldl_append]
    exact (tracks_powerOnEvents p h ht.sound (ht.off rfl).2).of_sends hbright
  · exact ht.of_sends hbright

/-! ### Claims and releases (R205) -/

theorem monStep_claim_false (p : Params) (m : Monitor) (l : Line) : monStep p m (.claim l false) = m := rfl

theorem foldl_monStep_claims (p : Params) (ls : List Line) (m : Monitor) :
    (ls.map fun l => Event.claim l true).foldl (monStep p) m =
      { m with owned := setLines (fun _ => true) ls m.owned } := by
  induction ls generalizing m with
  | nil => rfl
  | cons l ls ih => exact ih { m with owned := setLine m.owned l true }

/-- Each line is made an output only once it is owned. -/
theorem foldl_monStep_claims_outputs (p : Params) (ls : List Line) {m : Monitor} (hm : m.ok = true) :
    ∃ phase, (ls.flatMap fun l => [Event.claim l true, .dir l (initLevel p l)]).foldl (monStep p) m =
      { m with owned := setLines (fun _ => true) ls m.owned, phase := phase } := by
  induction ls generalizing m with
  | nil => exact ⟨m.phase, rfl⟩
  | cons l ls ih =>
    obtain ⟨phase, hphase⟩ := ih (m := monStep p (monStep p m (.claim l true)) (.dir l (initLevel p l)))
      (by simp [monStep, hm])
    refine ⟨phase, hphase.trans ?_⟩
    simp [monStep, setLines_cons, hm]

theorem foldl_monStep_releases (p : Params) (ls : List Line) (m : Monitor) :
    ∃ phase, (ls.map Event.rel).foldl (monStep p) m =
      { m with owned := setLines (fun _ => false) ls m.owned, phase := phase } := by
  induction ls generalizing m with
  | nil => exact ⟨m.phase, rfl⟩
  | cons l ls ih => exact ih (monStep p m (.rel l))

/-- A successful attach owns all lines before it drives any, and asserts reset. -/
theorem foldl_monStep_claimEvents (p : Params) {m : Monitor} (hm : m.ok = true) :
    (claimEvents p).foldl (monStep p) m =
      { m with owned := ⟨true, true, true, true⟩, phase := .asserted } := by
  cases hp : p.dirOutPolicy <;>
    simp [claimEvents, hp, monStep, setLine, getLine, hm, rstOn]

/-- A failed attach gives back what it claimed and breaks no rule. -/
theorem foldl_monStep_rollbackEvents (p : Params) (l : Line) {m : Monitor} (hm : m.ok = true)
    (hown : ∀ k, getLine m.owned k = false) :
    ∃ phase, (rollbackEvents p l).foldl (monStep p) m = { m with phase := phase } := by
  simp only [rollbackEvents, List.foldl_append, List.foldl_cons, List.foldl_nil, monStep_claim_false]
  cases p.dirOutPolicy with
  | afterAllClaims =>
    obtain ⟨phase, hrel⟩ := foldl_monStep_releases p (claimedBefore l).reverse
      { m with owned := setLines (fun _ => true) (claimedBefore l) m.owned }
    exact ⟨phase, by rw [foldl_monStep_claims, hrel, setLines_release_claim hown]⟩
  | afterEachClaim =>
    obtain ⟨phase, hclaim⟩ := foldl_monStep_claims_outputs p (claimedBefore l) hm
    obtain ⟨phase', hrel⟩ := foldl_monStep_releases p (claimedBefore l).reverse
      { m with owned := setLines (fun _ => true) (claimedBefore l) m.owned, phase := phase }
    exact ⟨phase', by rw [hclaim, hrel, setLines_release_claim hown]⟩

/-! ### The hazard invariant through every outcome -/

theorem monitor_append (p : Params) (t e : List Event) :
    monitor p (t ++ e) = e.foldl (monStep p) (monitor p t) :=
  List.foldl_append

theorem tracks_of_hazardFree {s : State} (hl : s.life = .attached)
    (hown : ∀ l, getLine s.owned l = true) (h : HazardFree s) :
    Tracks (monitor s.params s.trace) s.handle.power s.handle.present.vdd3 where
  sound := ⟨h.ok, h.held, fun l => (h.owned l).trans (hown l)⟩
  on hp := ⟨h.phaseOn hl hp, fun hv => (h.vdd3 hv).2.2⟩
  off hp := ⟨h.phaseOff hl hp, Bool.eq_false_iff.mpr fun hv => by simp [(h.vdd3 hv).2.1] at hp⟩

theorem hazardFree_of_tracks {s : State} (hl : s.life = .attached) (hown : ∀ l, getLine s.owned l = true)
    (h : Tracks (monitor s.params s.trace) s.handle.power s.handle.present.vdd3) : HazardFree s where
  ok := h.sound.ok
  held := h.sound.held
  owned l := (h.sound.owned l).trans (hown l).symm
  phaseOn _ hp := (h.on hp).1
  phaseOff _ hp := (h.off hp).1
  vdd3 hv := by
    cases hp : s.handle.power with
    | on => exact ⟨hl, rfl, (h.on hp).2 hv⟩
    | off => simp [(h.off hp).2] at hv

theorem hazardFree_of_detached {s : State} (hl : s.life = .detached)
    (hok : (monitor s.params s.trace).ok = true) (hheld : (monitor s.params s.trace).serialDue = false)
    (hown : ∀ l, getLine (monitor s.params s.trace).owned l = getLine s.owned l)
    (hvdd3 : (monitor s.params s.trace).vdd3On = false) : HazardFree s where
  ok := hok
  held := hheld
  owned := hown
  phaseOn h := by simp [hl] at h
  phaseOff h := by simp [hl] at h
  vdd3 h := by simp [hvdd3] at h

/-- While detached the block has VDD3 not enabled. -/
theorem vdd3On_of_detached {s : State} (h : HazardFree s) (hl : s.life = .detached) :
    (monitor s.params s.trace).vdd3On = false :=
  Bool.eq_false_iff.mpr fun hv => by simp [(h.vdd3 hv).1] at hl

theorem hazardFree_setResult {s : State} (h : HazardFree s) (r : Result) :
    HazardFree { s with result := r } :=
  ⟨h.ok, h.held, h.owned, h.phaseOn, h.phaseOff, h.vdd3⟩

theorem hazardFree_setRequests {s : State} (h : HazardFree s) (rs : List Request) :
    HazardFree { s with requests := rs } :=
  ⟨h.ok, h.held, h.owned, h.phaseOn, h.phaseOff, h.vdd3⟩

/-- An update of an attached block keeps the order of the hazards. -/
theorem hazardFree_afterUpdate {s : State} (hl : s.life = .attached) (hown : ∀ l, getLine s.owned l = true)
    (ht : Tracks (monitor s.params s.trace) s.handle.power s.handle.present.vdd3) (b : Byte) (bl su : Bool) :
    HazardFree (afterUpdate s b bl su) := by
  refine hazardFree_of_tracks ((afterUpdate_life s b bl su).trans hl) ?_ ?_
  · rw [afterUpdate_owned]
    exact hown
  · rw [afterUpdate_params, afterUpdate_trace, monitor_append, afterUpdate_handle]
    exact tracks_updateEvents s.params s.handle b bl su ht

/-- So does the OFF transition of an ON panel. -/
theorem hazardFree_afterPowerOff {s : State} (hl : s.life = .attached) (hown : ∀ l, getLine s.owned l = true)
    (ht : Tracks (monitor s.params s.trace) .on s.handle.present.vdd3) : HazardFree (afterPowerOff s) := by
  have hfix := afterPowerOff_fixed s
  refine hazardFree_of_tracks ((eq_of_fixed_eq State.life (fun _ => rfl) hfix).trans hl) ?_ ?_
  · rw [eq_of_fixed_eq State.owned (fun _ => rfl) hfix]
    exact hown
  · rw [eq_of_fixed_eq State.params (fun _ => rfl) hfix, afterPowerOff_trace, monitor_append,
      afterPowerOff_handle]
    exact tracks_powerOffEvents s.params s.handle ht

theorem tracks_forcedOffEvents (p : Params) (h : PanelHandle) {m : Monitor}
    (ht : Tracks m h.power h.present.vdd3) :
    Tracks ((forcedOffEvents p h).foldl (monStep p) m) .off h.present.vdd3 := by
  unfold forcedOffEvents
  split
  · next hp => rw [hp] at ht; exact tracks_powerOffEvents p h ht
  · next hp => rw [hp] at ht; exact ht

theorem foldl_monStep_releaseReg (p : Params) (m : Monitor) (c : Bool) (r : Rail) :
    (if c then [Event.regRel r] else []).foldl (monStep p) m = m := by
  cases c <;> rfl

/-- Detach powers the panel off before it gives the lines back. -/
theorem foldl_monStep_detachEvents (p : Params) (h : PanelHandle) {m : Monitor}
    (ht : Tracks m h.power h.present.vdd3) :
    ((detachEvents p h).foldl (monStep p) m).ok = true ∧
    ((detachEvents p h).foldl (monStep p) m).serialDue = false ∧
    ((detachEvents p h).foldl (monStep p) m).owned = ⟨false, false, false, false⟩ ∧
    ((detachEvents p h).foldl (monStep p) m).vdd3On = false := by
  have hoff := tracks_forcedOffEvents p h ht
  obtain ⟨phase, hrel⟩ := foldl_monStep_releases p claimOrder.reverse
    ((forcedOffEvents p h).foldl (monStep p) m)
  rw [detachEvents, List.foldl_append, List.foldl_append, List.foldl_append, List.foldl_append, hrel,
    foldl_monStep_releaseReg, foldl_monStep_releaseReg]
  exact ⟨hoff.sound.ok, hoff.sound.held, rfl, (hoff.off rfl).2⟩

/-- A detached block that attaches: the claims, then the way up and the brightness. -/
theorem tracks_attachEvents (p : Params) (cfg : AttachConfig) (on off : List Command) {m : Monitor}
    (hok : m.ok = true) (hheld : m.serialDue = false) (hvdd3 : m.vdd3On = false) :
    Tracks ((attachEvents p cfg on off).foldl (monStep p) m) .on cfg.found.vdd3 := by
  rw [attachEvents, List.foldl_append, List.foldl_append, List.foldl_append, foldl_monStep_claimEvents p hok]
  have hclaimed : SoundMonitor { m with owned := ⟨true, true, true, true⟩, phase := .asserted } :=
    ⟨hok, hheld, fun l => by cases l <;> rfl⟩
  exact (tracks_powerOnEvents p { newHandle cfg on off with present := cfg.found } hclaimed hvdd3).of_sends
    (sends_commandEvents p _)

theorem hazardFree_of_completes {s t : State} (hq : Quiescent s) (hskip : s.params.suspendWhenOff = .skip)
    (h : HazardFree s) (hc : Completes s t) : HazardFree t := by
  have hown : s.life = .attached → ∀ l, getLine s.owned l = true := fun hl l => (hq.ownsAll hl l).1
  cases hc with
  | updateStatus hl b bl su =>
    have ht := tracks_of_hazardFree hl (hown hl) h
    exact hazardFree_setResult (hazardFree_afterUpdate (s := { s with device := ⟨b, bl, su⟩ }) hl (hown hl)
      ht b bl su) .success
  | getCurrentBrightness b => exact hazardFree_setResult h _
  | attach hl cfg on off =>
    have hparams : (afterAttach s cfg on off).params = s.params :=
      afterUpdate_params (beforeUpdate s cfg on off) 255#8 false false
    have hhandle : (afterAttach s cfg on off).handle = { (beforeUpdate s cfg on off).handle with
        power := .on, brt := 255#8 } := afterUpdate_handle (beforeUpdate s cfg on off) 255#8 false false
    have howned : (afterAttach s cfg on off).owned = (beforeUpdate s cfg on off).owned :=
      afterUpdate_owned (beforeUpdate s cfg on off) 255#8 false false
    refine hazardFree_of_tracks rfl (fun l => by rw [howned]; cases l <;> rfl) ?_
    rw [hparams, hhandle, afterAttach_trace, monitor_append]
    exact tracks_attachEvents s.params cfg on off h.ok h.held (vdd3On_of_detached h hl)
  | attachRolledBack hl l line draws =>
    have hnone : ∀ k, getLine (monitor s.params s.trace).owned k = false := fun k =>
      (h.owned k).trans (hq.ownsNone hl k).1
    obtain ⟨phase, hroll⟩ := foldl_monStep_rollbackEvents s.params l h.ok hnone
    have hmon := (monitor_append s.params s.trace (rollbackEvents s.params l)).trans hroll
    refine hazardFree_of_detached hl ?_ ?_ ?_ ?_ <;> simp only [hmon]
    · exact h.ok
    · exact h.held
    · exact h.owned
    · exact vdd3On_of_detached h hl
  | detach hl =>
    obtain ⟨hok, hheld, howned, hvdd3⟩ := foldl_monStep_detachEvents s.params s.handle
      (tracks_of_hazardFree hl (hown hl) h)
    have hmon : monitor (afterDetach s).params (afterDetach s).trace =
        (detachEvents s.params s.handle).foldl (monStep s.params) (monitor s.params s.trace) := by
      rw [afterDetach_params, afterDetach_trace, monitor_append]
    refine hazardFree_of_detached rfl (by rw [hmon, hok]) (by rw [hmon, hheld]) (fun l => ?_)
      (by rw [hmon, hvdd3])
    rw [hmon, howned, afterDetach_owned]
  | suspend hl =>
    have ht := tracks_of_hazardFree hl (hown hl) h
    unfold afterSuspend
    split
    · next hp => exact hazardFree_setResult (hazardFree_afterPowerOff hl (hown hl) (hp ▸ ht)) .nothing
    · exact hazardFree_setResult h .nothing
    · next hreplay => exact nomatch hskip.symm.trans hreplay
  | resume hl =>
    exact hazardFree_setResult (hazardFree_afterUpdate hl (hown hl) (tracks_of_hazardFree hl (hown hl) h)
      _ _ _) .nothing

/-- Settles O55: every outcome of an external operation keeps the order the monitor checks. -/
theorem hazardInvKept : Obligations.HazardInvKept := by
  rintro s t ⟨hinv, hskip, hfree⟩ h
  have hkept : t.finish.params.suspendWhenOff = .skip ∧ HazardFree t.finish := by
    refine blockInv_induction (P := fun u => u.params.suspendWhenOff = .skip ∧ HazardFree u)
      (fun u rest hu => ⟨hu.1, hazardFree_setRequests hu.2 rest⟩) (fun u v hq hu hc => ⟨?_, ?_⟩) hinv
      ⟨?_, hfree⟩ h
    · rw [params_of_completes hc, hu.1]
    · exact hazardFree_of_completes hq hu.1 hu.2 hc
    · rw [State.finish, runMicros_params, hskip]
  exact ⟨blockInvKept s t hinv h, by rw [step_params h, hskip], hkept.2⟩

/-- Settles O56: the monitor of the empty trace agrees with the reset state, and skip is the default of D6. -/
theorem hazardInvAtReset : Obligations.HazardInvAtReset :=
  ⟨blockInvAtReset, rfl, hazardFree_of_detached rfl rfl rfl (fun l => by cases l <;> rfl) rfl⟩

end Sys2Proof.Machine
end
